-- ==== Sys2Proof/Word.lean ====
section
/-! DEFINITION. The word types of the block (spec/00_scope.md R7, R9): every host register, the digest, the SipHash
state words and the command word are 64 bits wide, a counter is 8 bits wide. There is no signed quantity. -/

namespace Sys2Proof

/-- A `u64` of R9: a host register, a digest, a SipHash state word, a command word. -/
abbrev Word := BitVec 64

/-- A `u8` of R9: a counter of the counter array, a byte of a message or of a key. -/
abbrev Byte := BitVec 8

end Sys2Proof
end

