-- ==== Sys2Proof/Config.lean ====
section
/-! DEFINITION. What an implementation fixes and what the spec leaves open (spec/00_scope.md R7,
spec/92_eei_decisions.md "Parameters left open", spec/93_implementation_defined.md part 1). A constant without a body is
a value no proof can see: a claim about it is a claim about every value. -/

namespace Sys2Proof

/-- The implementation's choice for N_SLOTS, before the bounds of R7 are put on it (log entry 2). -/
opaque Config.nSlotsChoice : Nat

/-- The implementation's choice for K_MAX, before the bounds of R7 are put on it (log entry 2). -/
opaque Config.kMaxChoice : Nat

/-- N_SLOTS, the number of physical counters: any number with 1 ≤ N_SLOTS ≤ 2^32 (R7, D37). -/
def Config.nSlots : Nat := min (max 1 Config.nSlotsChoice) (2 ^ 32)

/-- K_MAX, the largest number of hash positions: any number with 1 ≤ K_MAX ≤ N_SLOTS (R7, D37). -/
def Config.kMax : Nat := min (max 1 Config.kMaxChoice) Config.nSlots

/-- The platform's choice of where the block stands, in units of 256 bytes (log entry 15). -/
opaque Config.baseChoice : Nat

/-- BASE, the platform address of the block's first byte: any multiple of 256 (spec/20_memory.md R62, R70, decision D2, 93 I19). -/
def Config.base : Nat := 0x100 * Config.baseChoice

/-- The n-th free 64-bit value: a host read while BUSY = 1 (spec/20_memory.md R65, 93 I5), V and PEND after a reset
(93 I9, I10). Log entries 1, 6 and 10. -/
opaque Config.freeWord : Nat → Word

/-- How many host accesses come before the completion of the command issued at the n-th draw (spec/60_exceptions.md R204, 93
I6, I7). Log entry 8. -/
opaque Config.latency : Nat → Nat

/-- The counter array after the reset at the n-th draw, as (index, value) pairs before they are put in canonical form (93
I8, spec/70_reset_and_hazards.md R221). Log entry 6. -/
opaque Config.cntAfterReset : Nat → List Host.Cell

end Sys2Proof
end

