-- ==== Sys2Proof/Machine/State.lean ====
section
/-! DEFINITION. The state of the block as plain data (spec/10_state.md R20: registers, internal state, nothing else), the
reasons a step can stop, and the state after reset (R50). Below the block's own state stand four fields of the model: the
host's remaining accesses, the response of the last access, and the two counters from which free values are drawn. -/

namespace Sys2Proof.Machine

/-- The completion codes of STATUS.ERR (spec/60_exceptions.md R190). Codes 7-15 are never written. -/
inductive ErrCode where
  | none
  | invalidConfiguration
  | counterOverflow
  | counterUnderflow
  | notConfigured
  | noActiveHash
  | illegalCommand
  deriving DecidableEq, Repr

/-- The host-visible registers (spec/10_state.md R22). -/
inductive Reg where
  | id
  | cmd
  | status
  | key0
  | key1
  | data
  | digest
  | paramK
  | paramO
  | paramMaxc
  | cfgK
  | cfgO
  | cfgMaxc
  | itemCount
  | hlen
  | cntIndex
  | cntData
  deriving DecidableEq, Repr

/-- What the host can do to the block (spec/60_exceptions.md R208). Widths are in bits, offsets in bytes from BASE. -/
inductive HostEvent where
  /-- RegRead(off) of `width` bits. -/
  | read (width off : Nat)
  /-- RegWrite(off, v) of `width` bits. -/
  | write (width off : Nat) (v : Word)
  /-- One turn of the WAIT loop (spec/30_encoding.md R98): read STATUS, and again while BUSY = 1. -/
  | poll
  /-- `rst` asserted for at least one clock edge and released (spec/70_reset_and_hazards.md R220). -/
  | reset
  deriving DecidableEq, Repr

/-- The four SipHash state words V[0..3] (spec/10_state.md R44). -/
structure SipState where
  v0 : Word
  v1 : Word
  v2 : Word
  v3 : Word
  deriving DecidableEq, Repr

/-- The counter array, as the (index, value) pairs whose value is not 0, indices rising. -/
abbrev Memory := List Host.Cell

/-- The machine. The first five groups are exactly the record of R20; ID, CMD, STATUS and CNT_DATA have no storage there
(STATUS is composed of its flags). The last group is the model's own. -/
structure State where
  -- STATUS flags (R26)
  busy : Bool
  result : Bool
  cfgValid : Bool
  hashActive : Bool
  drop : Bool
  err : ErrCode
  -- registers the host writes (R33-R38, R42)
  key0 : Word
  key1 : Word
  data : Word
  digest : Word
  paramK : Word
  paramO : Word
  paramMaxc : Word
  cntIndex : Word
  -- registers only commands write (R39-R41)
  cfgK : Word
  cfgO : Word
  cfgMaxc : Word
  itemCount : Word
  hlen : Word
  -- internal state (R44-R46)
  v : SipState
  ka0 : Word
  ka1 : Word
  cnt : Memory
  -- the pending command (R47)
  pend : Word
  -- the model's own: accesses the host still has to make (log entry 7), what the last access returned (log entry 9), host
  -- accesses before the pending command completes (log entry 8), free values drawn so far (log entry 1)
  inbox : List HostEvent
  rsp : Option Word
  latency : Nat
  draws : Nat
  deriving DecidableEq, Repr

/-- Why the machine stops with a fault. -/
inductive Fault where
  /-- Raised by ADD, REMOVE, CONTAINS and a read of CNT_DATA when CFG_VALID = 1 and the active parameters are none that
  CONFIG accepts, so that the counters they name need not exist. The spec's invariant R51 item 1 rules such a state out and
  no run from reset reaches one. SAFE (log entry 12). -/
  | unfitConfiguration
  deriving DecidableEq, Repr

/-- Why a step has no meaning. -/
inductive Refusal where
  /-- An instruction that has no meaning yet. No arm of `exec` answers with it. SAFE. -/
  | notModelled (mnemonic : String)
  /-- Raised by a host access that is not 64 bits wide (spec/20_memory.md R66). SAFE (log entry 13). -/
  | accessWidth (width : Nat)
  /-- Raised by a host access at or above offset 0x100 (R66, 93 I13). SAFE (log entry 13). -/
  | outsideBlock (off : Nat)
  /-- Raised by a host access whose offset is no multiple of 8 (R66). SAFE (log entry 13). -/
  | misaligned (off : Nat)
  deriving DecidableEq, Repr

/-- What a step answers. -/
abbrev Answer := Host.Outcome State Fault Refusal

/-- The machine right after reset (R50). DESIGN CHOICE, UNSAFE: V, CNT and PEND, which R50 leaves unspecified, are 0 here
(log entries 3, 4, 5). The host has no access to make and nothing has been drawn (log entries 1, 7, 8, 9). -/
def State.reset : State where
  busy := false
  result := false
  cfgValid := false
  hashActive := false
  drop := false
  err := .none
  key0 := 0#64
  key1 := 0#64
  data := 0#64
  digest := 0#64
  paramK := 0#64
  paramO := 0#64
  paramMaxc := 0x00000000000000FF#64
  cntIndex := 0#64
  cfgK := 0#64
  cfgO := 0#64
  cfgMaxc := 0#64
  itemCount := 0#64
  hlen := 0#64
  v := ⟨0#64, 0#64, 0#64, 0#64⟩
  ka0 := 0#64
  ka1 := 0#64
  cnt := []
  pend := 0#64
  inbox := []
  rsp := .none
  latency := 0
  draws := 0

end Sys2Proof.Machine
end

