-- ==== Sys2Proof/Machine/Ops.lean ====
section
/-! DEFINITION. The operations over the counter array and the one way a command ends: `complete` and `raiseError`
(spec/00_scope.md R11, spec/60_exceptions.md R191), which is all the block has of taking an exception; there is no return from one
(R195, R196). -/

namespace Sys2Proof.Machine

/-! ## The counter array -/

/-- What a counter no entry lists holds. DESIGN CHOICE, UNSAFE (log entry 4): the spec leaves the array after reset
unspecified and unobservable (spec/10_state.md R46). -/
def Memory.unlisted : Byte := 0#8

/-- CNT[j]. -/
def Memory.read : Memory → Nat → Byte
  | [], _ => Memory.unlisted
  | (a, b) :: m, j => if a = j then b else Memory.read m j

/-- CNT[j] <- b, keeping the canonical form: an entry equal to what an unlisted counter holds is dropped. -/
def Memory.write : Memory → Nat → Byte → Memory
  | [], j, b => if b = Memory.unlisted then [] else [(j, b)]
  | (a, c) :: m, j, b =>
    if a < j then (a, c) :: Memory.write m j b
    else if a = j then (if b = Memory.unlisted then m else (j, b) :: m)
    else (if b = Memory.unlisted then (a, c) :: m else (j, b) :: (a, c) :: m)

/-- CNT[j] <- 0 for every j < n (the loop of spec/41_filter.md R143). -/
def Memory.clearBelow (m : Memory) (n : Nat) : Memory := m.filter (fun c => decide (n ≤ c.1))

/-- Indices strictly rise and no entry holds what an unlisted counter holds. -/
def Memory.wf : Memory → Bool
  | [] => true
  | (a, b) :: m => b != Memory.unlisted && m.all (fun c => decide (a < c.1)) && Memory.wf m

/-- Every listed counter exists: its index is below N_SLOTS (spec/20_memory.md R62). -/
def Memory.inRange (m : Memory) : Prop := ∀ c ∈ m, c.1 < Config.nSlots

/-- The canonical array with the values that `l` lists for counters that exist. -/
def Memory.canon (l : List Host.Cell) : Memory :=
  (l.filter (fun c => decide (c.1 < Config.nSlots))).foldl (fun m c => Memory.write m c.1 c.2) []

/-- CNT[p] <- f(CNT[p]) for each p of `ps` in turn (the loops of spec/41_filter.md R150 and R154). -/
def Memory.modifyAll (f : Byte → Byte) (ps : List Nat) (m : Memory) : Memory :=
  ps.foldl (fun m p => Memory.write m p (f (Memory.read m p))) m

/-! ## Ending a command -/

/-- `complete(code)`: the code is written and BUSY returns to 0 (R11, spec/10_state.md R27, R32). DESIGN CHOICE,
UNSAFE (log entry 23): PEND keeps the completed command's word, where the spec leaves it open while BUSY = 0 (93 I10); no rule
reads it then (R47). -/
def State.complete (code : ErrCode) (s : State) : State := { s with err := code, busy := false }

/-- A command that ends with NONE, `s` being the state with its rule's writes made. -/
def succeed (s : State) : Answer := .next (s.complete .none)

/-- `raise Error(code)`: the command ends with `code` and with no other effect (R191). -/
def raiseError (code : ErrCode) (s : State) : Answer := .next (s.complete code)

end Sys2Proof.Machine
end

