-- ==== Sys2Proof/Machine/Operands.lean ====
section
/-! DEFINITION. The operand forms: the register map and its access classes (spec/10_state.md R22, R23), the u64 operators
and bit fields (spec/00_scope.md R9, R10), little-endian packing (spec/20_memory.md R68), and the tail operand of HASH_FINAL
(spec/40_siphash.md R121). -/

namespace Sys2Proof.Machine

/-! ## The register map -/

/-- Byte offset from BASE (R22). -/
def Reg.offset : Reg → Nat
  | .id => 0x00
  | .cmd => 0x08
  | .status => 0x10
  | .key0 => 0x18
  | .key1 => 0x20
  | .data => 0x28
  | .digest => 0x30
  | .paramK => 0x38
  | .paramO => 0x40
  | .paramMaxc => 0x48
  | .cfgK => 0x50
  | .cfgO => 0x58
  | .cfgMaxc => 0x60
  | .itemCount => 0x68
  | .hlen => 0x70
  | .cntIndex => 0x78
  | .cntData => 0x80

/-- All registers, in the order of R22. -/
def Reg.all : List Reg :=
  [.id, .cmd, .status, .key0, .key1, .data, .digest, .paramK, .paramO, .paramMaxc, .cfgK, .cfgO, .cfgMaxc, .itemCount,
    .hlen, .cntIndex, .cntData]

/-- The register at an offset; the reserved offsets 0x88-0xF8 have none (R22, spec/20_memory.md R67). -/
def Reg.atOffset (off : Nat) : Option Reg := Reg.all.find? (fun r => r.offset == off)

/-- The platform address of a register, BASE + off (R22, spec/20_memory.md R62). -/
def Reg.address (r : Reg) : Nat := Config.base + r.offset

/-- The offset in the block that a platform address names: the host register space is the 256 bytes at BASE, and an address outside
it names nothing of this block (spec/20_memory.md R62, R70, 93 I13). -/
def blockOffset (addr : Nat) : Option Nat :=
  if Config.base ≤ addr ∧ addr < Config.base + 0x100 then some (addr - Config.base) else none

/-- The registers whose write is dropped while BUSY = 1: CMD and the operand registers (spec/20_memory.md R64). -/
def Reg.droppedWhenBusy : Reg → Bool
  | .cmd | .key0 | .key1 | .data | .digest | .paramK | .paramO | .paramMaxc | .cntIndex => true
  | .id | .status | .cfgK | .cfgO | .cfgMaxc | .itemCount | .hlen | .cntData => false

/-- A write to an operand register stores all 64 bits; a read-only register ignores it (R23). CMD and STATUS writes are no
plain stores and are handled by the bus. -/
def State.store (r : Reg) (v : Word) (s : State) : State :=
  match r with
  | .key0 => { s with key0 := v }
  | .key1 => { s with key1 := v }
  | .data => { s with data := v }
  | .digest => { s with digest := v }
  | .paramK => { s with paramK := v }
  | .paramO => { s with paramO := v }
  | .paramMaxc => { s with paramMaxc := v }
  | .cntIndex => { s with cntIndex := v }
  | .id | .cmd | .status | .cfgK | .cfgO | .cfgMaxc | .itemCount | .hlen | .cntData => s

/-! ## u64 operators and fields -/

/-- `rotl64(x, r)` for 0 < r < 64 (R10). -/
def rotl64 (x : Word) (r : Nat) : Word := (x <<< r) ||| (x >>> (64 - r))

/-- h1 = h[63:32] (spec/41_filter.md R147). -/
def highHalf (h : Word) : Nat := h.toNat / 2 ^ 32

/-- h2 = h[31:0] (spec/41_filter.md R147). -/
def lowHalf (h : Word) : Nat := h.toNat % 2 ^ 32

/-- `zext_64` of a counter (R9). -/
def zext64 (b : Byte) : Word := b.setWidth 64

/-- The sum of b[j] · 2^(8j): the first byte is the least significant (spec/20_memory.md R68). -/
def packLE : List Byte → Nat
  | [] => 0
  | b :: bs => b.toNat + 2 ^ 8 * packLE bs

/-- The number of `packLE` as a u64, for at most eight bytes (R68). -/
def wordLE (bs : List Byte) : Word := BitVec.ofNat 64 (packLE bs)

/-- The low `t` bytes of DATA: `reg[DATA] & (2^(8t) − 1)` (spec/40_siphash.md R121, decision D20). -/
def tailOf (data : Word) (t : Nat) : Word := data &&& BitVec.ofNat 64 (2 ^ (8 * t) - 1)

/-- The padding block: the length byte in bits 63:56 and the tail below it (spec/40_siphash.md R118, R121, 90 C2). -/
def padBlock (len tail : Word) : Word := ((len.setWidth 8).setWidth 64 <<< 56) ||| tail

end Sys2Proof.Machine
end

