-- ==== Sys2Proof/Machine/Flags.lean ====
section
/-! DEFINITION. STATUS as a word (spec/10_state.md R26), the completion codes as numbers (spec/60_exceptions.md R190) and the
identification constant (spec/10_state.md R24). -/

namespace Sys2Proof.Machine

/-- The 4-bit code of STATUS.ERR (R190). -/
def ErrCode.code : ErrCode → BitVec 4
  | .none => 0#4
  | .invalidConfiguration => 1#4
  | .counterOverflow => 2#4
  | .counterUnderflow => 3#4
  | .notConfigured => 4#4
  | .noActiveHash => 5#4
  | .illegalCommand => 6#4

/-- A flag as one bit. -/
def flagBit (b : Bool) : BitVec 1 := BitVec.ofBool b

/-- STATUS: bits 63:12 zero, 11:8 ERR, 7:5 zero, 4 DROP, 3 HASH_ACTIVE, 2 CFG_VALID, 1 RESULT, 0 BUSY (R26). -/
def State.statusWord (s : State) : Word :=
  0#52 ++ s.err.code ++ 0#3 ++ flagBit s.drop ++ flagBit s.hashActive ++ flagBit s.cfgValid ++ flagBit s.result ++
    flagBit s.busy

/-- A write to STATUS: bit 4 is write-one-to-clear, every other bit is read-only (R23, R26, R31). -/
def State.writeStatus (v : Word) (s : State) : State := { s with drop := s.drop && !v.getLsbD 4 }

/-- ID: "SIPCBF", then version 1 (R24). -/
def idValue : Word := 0x5349504342460001#64

end Sys2Proof.Machine
end

