-- ==== Sys2Proof/Machine/Filter.lean ====
section
/-! DEFINITION. The counting Bloom filter commands (spec/41_filter.md R142-R156): CONFIG, position derivation, ADD, REMOVE and
CONTAINS. -/

namespace Sys2Proof.Machine

/-! ## Configuration -/

/-- `cfg_ok` for given N_SLOTS and K_MAX, on full 64-bit values with an exact product (R142). -/
def configOkFor (nSlots kMax : Nat) (k o maxc : Word) : Bool :=
  decide (1 ≤ k.toNat) && decide (1 ≤ o.toNat) && decide (1 ≤ maxc.toNat) && decide (maxc.toNat ≤ 255) &&
    decide (k.toNat ≤ kMax) && decide (k.toNat * o.toNat ≤ nSlots)

/-- `cfg_ok` of this block (R142). -/
def configOk (k o maxc : Word) : Bool := configOkFor Config.nSlots Config.kMax k o maxc

/-- The writes of a successful CONFIG (R143). -/
def State.configure (s : State) : State :=
  { s with
    cfgK := s.paramK
    cfgO := s.paramO
    cfgMaxc := s.paramMaxc
    ka0 := s.key0
    ka1 := s.key1
    cnt := s.cnt.clearBelow (s.paramK.toNat * s.paramO.toNat)
    itemCount := 0#64
    hlen := 0#64
    cfgValid := true
    hashActive := false }

/-- CONFIG (R143). -/
def execConfig (s : State) : Answer :=
  if configOk s.paramK s.paramO s.paramMaxc then succeed s.configure else raiseError .invalidConfiguration s

/-! ## Positions -/

/-- slot_i = (h1 + i·h2) mod o over the naturals (R147). -/
def slot (h : Word) (o i : Nat) : Nat := (highHalf h + i * lowHalf h) % o

/-- pos_i = slot_i + i·o (R147). -/
def position (h : Word) (o i : Nat) : Nat := slot h o i + i * o

/-- (pos_0, ..., pos_(k-1)) (R147). -/
def positions (h : Word) (k o : Nat) : List Nat := (List.range k).map (position h o)

/-- The slots with narrow adders: s_0 = h1 mod o, s_(i+1) = (s_i + h2 mod o) mod o (R149). -/
def slotIncremental (h : Word) (o : Nat) : Nat → Nat
  | 0 => highHalf h % o
  | i + 1 => (slotIncremental h o i + lowHalf h % o) % o

/-- The positions of DIGEST under the active configuration (R146, R147). -/
def State.digestPositions (s : State) : List Nat := positions s.digest s.cfgK.toNat s.cfgO.toNat

/-- The number of counters the active configuration uses, CFG_K · CFG_O as an exact product (spec/20_memory.md R63). -/
def State.window (s : State) : Nat := s.cfgK.toNat * s.cfgO.toNat

/-! ## The filter commands -/

/-- What ADD, REMOVE and CONTAINS check first: NOT_CONFIGURED while CFG_VALID = 0 (R145). An active configuration that CONFIG
never makes is a fault (log entry 12). -/
def filterGate (effect : State → Answer) (s : State) : Answer :=
  if s.cfgValid then
    if configOk s.cfgK s.cfgO s.cfgMaxc then effect s else .fault .unfitConfiguration
  else raiseError .notConfigured s

/-- ADD on a configured filter (R150): all k counters and the count, or COUNTER_OVERFLOW and nothing. -/
def addEffect (s : State) : Answer :=
  if s.digestPositions.any (fun p => decide (s.cfgMaxc.toNat ≤ (s.cnt.read p).toNat)) then raiseError .counterOverflow s
  else succeed
    { s with cnt := s.cnt.modifyAll (fun c => c + 1#8) s.digestPositions, itemCount := s.itemCount + 1#64 }

/-- REMOVE on a configured filter (R154): all k counters and the count, or COUNTER_UNDERFLOW and nothing. -/
def removeEffect (s : State) : Answer :=
  if s.digestPositions.any (fun p => s.cnt.read p == 0#8) then raiseError .counterUnderflow s
  else succeed
    { s with cnt := s.cnt.modifyAll (fun c => c - 1#8) s.digestPositions, itemCount := s.itemCount - 1#64 }

/-- CONTAINS on a configured filter (R156): RESULT is 1 exactly when all k counters are nonzero. -/
def containsEffect (s : State) : Answer :=
  succeed { s with result := s.digestPositions.all (fun p => s.cnt.read p != 0#8) }

/-- ADD (R150). -/
def execAdd (s : State) : Answer := filterGate addEffect s

/-- REMOVE (R154). -/
def execRemove (s : State) : Answer := filterGate removeEffect s

/-- CONTAINS (R156). -/
def execContains (s : State) : Answer := filterGate containsEffect s

end Sys2Proof.Machine
end

