-- ==== Sys2Proof/Machine/Bus.lean ====
section
/-! DEFINITION. The host's accesses (spec/20_memory.md R64-R67) and reset (spec/70_reset_and_hazards.md R220). -/

namespace Sys2Proof.Machine

/-! ## Responses -/

/-- A read that returns `w` and changes no state of the block (R65); `w` is the response of this access (R61, log entry 9). -/
def State.respond (w : Word) (s : State) : State := { s with rsp := some w }

/-- A write returns nothing (spec/60_exceptions.md R208, log entry 9). -/
def State.acknowledge (s : State) : State := { s with rsp := .none }

/-- A read that returns any u64: a fresh free value (R65, R73, log entry 10). -/
def State.respondFree (s : State) : State :=
  { s with rsp := some (Config.freeWord s.draws), draws := s.draws + 1 }

/-! ## RegRead -/

/-- The stored value of a register, for a read while BUSY = 0 (spec/10_state.md R34-R42). ID is hard-wired, STATUS is
composed, the write-only registers read 0 (R23); CNT_DATA is computed by `readCntData`. -/
def State.regValue (r : Reg) (s : State) : Word :=
  match r with
  | .id => idValue
  | .status => s.statusWord
  | .cmd | .key0 | .key1 => 0#64
  | .data => s.data
  | .digest => s.digest
  | .paramK => s.paramK
  | .paramO => s.paramO
  | .paramMaxc => s.paramMaxc
  | .cfgK => s.cfgK
  | .cfgO => s.cfgO
  | .cfgMaxc => s.cfgMaxc
  | .itemCount => s.itemCount
  | .hlen => s.hlen
  | .cntIndex => s.cntIndex
  | .cntData => 0#64

/-- CNT_DATA while BUSY = 0 (spec/10_state.md R43). Under an active configuration that CONFIG never makes the counter need not
exist: a fault (log entry 12). -/
def readCntData (s : State) : Answer :=
  if s.cfgValid && decide (s.cntIndex.toNat < s.window) then
    if configOk s.cfgK s.cfgO s.cfgMaxc then .next (s.respond (zext64 (s.cnt.read s.cntIndex.toNat)))
    else .fault .unfitConfiguration
  else .next (s.respond 0#64)

/-- The registers whose read is exact while BUSY = 1: ID, STATUS and the write-only ones (R65). -/
def Reg.exactWhenBusy : Reg → Bool
  | .id | .status | .cmd | .key0 | .key1 => true
  | .data | .digest | .paramK | .paramO | .paramMaxc | .cfgK | .cfgO | .cfgMaxc | .itemCount | .hlen | .cntIndex
  | .cntData => false

/-- RegRead(off), off a multiple of 8 below 0x100 (R65). -/
def regRead (off : Nat) (s : State) : Answer :=
  match Reg.atOffset off with
  | none => .next (s.respond 0#64)
  | some r =>
    if s.busy && !r.exactWhenBusy then .next s.respondFree
    else if r = .cntData then readCntData s
    else .next (s.respond (s.regValue r))

/-! ## RegWrite -/

/-- Command issue (spec/10_state.md R25): PEND and BUSY. How many host accesses come before the completion is a fresh free
value (log entry 8). -/
def State.issue (w : Word) (s : State) : State :=
  { s with pend := w, busy := true, latency := Config.latency s.draws, draws := s.draws + 1 }

/-- What RegWrite(off, v) does to the block, off a multiple of 8 below 0x100 (R64). -/
def writeEffect (off : Nat) (v : Word) (s : State) : State :=
  match Reg.atOffset off with
  | none => s
  | some r =>
    if r = .status then s.writeStatus v
    else if s.busy && r.droppedWhenBusy then { s with drop := true }
    else if r = .cmd then s.issue v
    else s.store r v

/-- RegWrite(off, v) (R64). -/
def regWrite (off : Nat) (v : Word) (s : State) : Answer := .next (writeEffect off v s).acknowledge

/-! ## Accesses with a meaning -/

/-- The only defined access is 64 bits wide, at a multiple of 8 below 0x100 (R66); any other is refused (93 I12, I13). -/
def accessRefusal (width off : Nat) : Option Refusal :=
  if width ≠ 64 then some (.accessWidth width)
  else if 0x100 ≤ off then some (.outsideBlock off)
  else if off % 8 ≠ 0 then some (.misaligned off)
  else none

/-- An access that has a meaning is made, any other is refused. -/
def checkedAccess (width off : Nat) (access : State → Answer) (s : State) : Answer :=
  match accessRefusal width off with
  | some r => .refused r
  | none => access s

/-! ## Platform addresses -/

/-- The host's read at a platform address, as an access of this block; `none` where the address is not the block's (R62, R70, log
entry 15). -/
def busRead (width addr : Nat) : Option HostEvent := (blockOffset addr).map (fun off => .read width off)

/-- The host's write at a platform address, as an access of this block (R62, R70, log entry 15). -/
def busWrite (width addr : Nat) (v : Word) : Option HostEvent := (blockOffset addr).map (fun off => .write width off v)

/-! ## Reset -/

/-- Reset of a running machine (spec/70_reset_and_hazards.md R220): R50's values, V, PEND and CNT any value (log entry 6); a
pending command is discarded. The host's remaining accesses stay. -/
def State.resetBlock (s : State) : State :=
  { State.reset with
    v := ⟨Config.freeWord s.draws, Config.freeWord (s.draws + 1), Config.freeWord (s.draws + 2),
      Config.freeWord (s.draws + 3)⟩
    pend := Config.freeWord (s.draws + 4)
    cnt := Memory.canon (Config.cntAfterReset s.draws)
    inbox := s.inbox
    draws := s.draws + 5 }

/-! ## Events -/

/-- One turn of the WAIT loop (spec/30_encoding.md R98): read STATUS; while BUSY = 1 the host makes the same turn again. -/
def pollStatus (s : State) : Answer :=
  .next (if s.busy then { s.respond s.statusWord with inbox := .poll :: s.inbox } else s.respond s.statusWord)

/-- The host's event `e`, `s` being the state from which it has been taken. -/
def hostEvent (e : HostEvent) (s : State) : Answer :=
  match e with
  | .read width off => checkedAccess width off (regRead off) s
  | .write width off v => checkedAccess width off (regWrite off v) s
  | .poll => pollStatus s
  | .reset => .next s.resetBlock

end Sys2Proof.Machine
end

