-- ==== Sys2Proof/Syntax.lean ====
section
/-! DEFINITION. The eight commands of the block, one constructor per row of spec/opcode_table.json
(spec/30_encoding.md R93). The only operand a command word carries is TLEN (R92): the tail length of HASH_FINAL, an
unsigned count of bytes. -/

namespace Sys2Proof

/-- A command of the block (R93). `hashFinal tlen` carries the tail length; WellFormed bounds it by 7 (R90). -/
inductive Instr where
  /-- NOP, spec/42_control.md R180. -/
  | nop
  /-- CONFIG, spec/41_filter.md R143. -/
  | config
  /-- HASH_INIT, spec/40_siphash.md R119. -/
  | hashInit
  /-- HASH_BLOCK, spec/40_siphash.md R120. -/
  | hashBlock
  /-- HASH_FINAL t, spec/40_siphash.md R121. -/
  | hashFinal (tlen : Nat)
  /-- ADD, spec/41_filter.md R150. -/
  | add
  /-- REMOVE, spec/41_filter.md R154. -/
  | remove
  /-- CONTAINS, spec/41_filter.md R156. -/
  | contains
  deriving DecidableEq, Repr

end Sys2Proof
end

