-- ==== Sys2Proof/WellFormed.lean ====
section
/-! DEFINITION. Which commands the encoding can carry: TLEN is a three-bit count, 0 to 7 (spec/30_encoding.md R90, R92). -/

namespace Sys2Proof

/-- The tail length of HASH_FINAL fits TLEN = bits 10:8 (R90); the other commands carry no operand. -/
def Instr.wf : Instr → Bool
  | .nop => true
  | .config => true
  | .hashInit => true
  | .hashBlock => true
  | .hashFinal tlen => decide (tlen < 8)
  | .add => true
  | .remove => true
  | .contains => true

/-- `i` is a command that some command word carries (R90, R92). -/
abbrev WellFormed (i : Instr) : Prop := i.wf = true

end Sys2Proof
end

