-- ==== Sys2Proof/Decode.lean ====
section
/-! DEFINITION. The command decoder and encoder (spec/30_encoding.md R90-R95). A command is one 64-bit word (R91), so the
decoder reads the whole word; it is total, and what it refuses it refuses by name. -/

namespace Sys2Proof

/-- Why a word is ILLEGAL (R95). The block reports one code for all three (spec/42_control.md R181). -/
inductive DecodeError where
  /-- RSV = bits 63:11 is not 0. -/
  | reservedBits (rsv : Nat)
  /-- TLEN is not 0 and OPC is not 0x12. -/
  | tailLength (opc tlen : Nat)
  /-- OPC is none of the eight opcodes. -/
  | opcode (opc : Nat)
  deriving DecidableEq, Repr

/-- OPC = w[7:0] (R90). -/
def opcField (w : Word) : Nat := w.toNat % 2 ^ 8

/-- TLEN = w[10:8] (R90, R92: an unsigned count, neither scaled nor sign-extended). -/
def tlenField (w : Word) : Nat := w.toNat / 2 ^ 8 % 2 ^ 3

/-- RSV = w[63:11] (R90). -/
def rsvField (w : Word) : Nat := w.toNat / 2 ^ 11

/-- The decoder, in the order of R94. -/
def decode (w : Word) : Except DecodeError Instr :=
  if rsvField w ≠ 0 then .error (.reservedBits (rsvField w))
  else if opcField w = 0x12 then .ok (.hashFinal (tlenField w))
  else if tlenField w ≠ 0 then .error (.tailLength (opcField w) (tlenField w))
  else if opcField w = 0x00 then .ok .nop
  else if opcField w = 0x01 then .ok .config
  else if opcField w = 0x10 then .ok .hashInit
  else if opcField w = 0x11 then .ok .hashBlock
  else if opcField w = 0x20 then .ok .add
  else if opcField w = 0x21 then .ok .remove
  else if opcField w = 0x22 then .ok .contains
  else .error (.opcode (opcField w))

/-- The command values of R93's last column. -/
def encode : Instr → Word
  | .nop => 0x0000000000000000#64
  | .config => 0x0000000000000001#64
  | .hashInit => 0x0000000000000010#64
  | .hashBlock => 0x0000000000000011#64
  | .hashFinal tlen => BitVec.ofNat 64 (0x12 + tlen * 0x100)
  | .add => 0x0000000000000020#64
  | .remove => 0x0000000000000021#64
  | .contains => 0x0000000000000022#64

/-- The word whose low `nbits` bits are those of `w` and whose other bits are 0. -/
def tableWord (nbits w : Nat) : Word := BitVec.ofNat 64 (w % 2 ^ nbits)

/-- What the decoder reads from a word given as spec/opcode_table.json numbers its bits: the table's rows are one 64-bit
word each (R91), so bit 0 of the row is bit 0 of the command word. -/
def decodeTableWord (nbits w : Nat) : Option Instr :=
  match decode (tableWord nbits w) with
  | .ok i => some i
  | .error _ => none

end Sys2Proof
end

