-- ==== Sys2Proof/Machine/Control.lean ====
section
/-! DEFINITION. NOP and the completion of an illegal command word (spec/42_control.md R180, R181). -/

namespace Sys2Proof.Machine

/-- NOP (R180): ERR <- NONE and BUSY <- 0. -/
def execNop (s : State) : Answer := succeed s

/-- An illegal word completes with ILLEGAL_COMMAND and no other effect (R181). -/
def completeIllegal (s : State) : Answer := raiseError .illegalCommand s

end Sys2Proof.Machine
end

