-- ==== Sys2Proof/Machine/SipHash.lean ====
section
/-! DEFINITION. The SipHash-2-4 datapath and the hash commands (spec/40_siphash.md R110-R121). -/

namespace Sys2Proof.Machine

/-! ## The datapath -/

/-- "somepseu", first character most significant (R110, 90 C1). -/
def sipC0 : Word := 0x736f6d6570736575#64
/-- "dorandom" (R110). -/
def sipC1 : Word := 0x646f72616e646f6d#64
/-- "lygenera" (R110). -/
def sipC2 : Word := 0x6c7967656e657261#64
/-- "tedbytes" (R110). -/
def sipC3 : Word := 0x7465646279746573#64

/-- SipRound, the two half-rounds with their two lanes each (R112; the spec marks the dataflow as the reference
algorithm's, log entry 18). -/
def sipRound (s : SipState) : SipState :=
  let a0 := s.v0 + s.v1
  let a2 := s.v2 + s.v3
  let a1 := rotl64 s.v1 13 ^^^ a0
  let a3 := rotl64 s.v3 16 ^^^ a2
  let a0r := rotl64 a0 32
  let b2 := a2 + a1
  let b0 := a0r + a3
  let b1 := rotl64 a1 17 ^^^ b2
  let b3 := rotl64 a3 21 ^^^ b0
  let b2r := rotl64 b2 32
  ⟨b0, b1, b2r, b3⟩

/-- SipRound as the sequential program of R113, one assignment after the other. -/
def sipRoundSeq (s : SipState) : SipState :=
  let s := { s with v0 := s.v0 + s.v1 }
  let s := { s with v1 := rotl64 s.v1 13 }
  let s := { s with v1 := s.v1 ^^^ s.v0 }
  let s := { s with v0 := rotl64 s.v0 32 }
  let s := { s with v2 := s.v2 + s.v3 }
  let s := { s with v3 := rotl64 s.v3 16 }
  let s := { s with v3 := s.v3 ^^^ s.v2 }
  let s := { s with v0 := s.v0 + s.v3 }
  let s := { s with v3 := rotl64 s.v3 21 }
  let s := { s with v3 := s.v3 ^^^ s.v0 }
  let s := { s with v2 := s.v2 + s.v1 }
  let s := { s with v1 := rotl64 s.v1 17 }
  let s := { s with v1 := s.v1 ^^^ s.v2 }
  { s with v2 := rotl64 s.v2 32 }

/-- Init(k0, k1): k0 with constants 0 and 2, k1 with 1 and 3 (R114). -/
def sipInit (k0 k1 : Word) : SipState := ⟨k0 ^^^ sipC0, k1 ^^^ sipC1, k0 ^^^ sipC2, k1 ^^^ sipC3⟩

/-- `n` rounds. -/
def sipRounds : Nat → SipState → SipState
  | 0, s => s
  | n + 1, s => sipRounds n (sipRound s)

/-- Compress: two rounds around one block (R115). -/
def sipCompress (s : SipState) (m : Word) : SipState :=
  let r := sipRounds 2 { s with v3 := s.v3 ^^^ m }
  { r with v0 := r.v0 ^^^ m }

/-- The state words Finalize ends with: 0xff into word 2, four rounds (R116). -/
def sipFinalState (s : SipState) : SipState := sipRounds 4 { s with v2 := s.v2 ^^^ 0x00000000000000ff#64 }

/-- The digest of the final state words (R116). -/
def sipDigest (s : SipState) : Word := s.v0 ^^^ s.v1 ^^^ s.v2 ^^^ s.v3

/-! ## The hash as a function of key and message -/

/-- Message bytes 8i .. 8i+7 as a block (R117, spec/20_memory.md R68). -/
def blockAt (b : List Byte) (i : Nat) : Word := wordLE ((b.drop (8 * i)).take 8)

/-- The tail of a message: its last `len mod 8` bytes (R118). -/
def tailBytes (b : List Byte) : List Byte := b.drop (8 * (b.length / 8))

/-- Pad(b) (R118). -/
def pad (b : List Byte) : Word := padBlock (BitVec.ofNat 64 b.length) (wordLE (tailBytes b))

/-- The state words after the first `i` full blocks of `b`, under the key words k0, k1 (R117). -/
def sipAbsorb (k0 k1 : Word) (b : List Byte) (i : Nat) : SipState :=
  (List.range i).foldl (fun v n => sipCompress v (blockAt b n)) (sipInit k0 k1)

/-- The hash of `b` under the key words k0, k1 (R117). -/
def sipHashWords (k0 k1 : Word) (b : List Byte) : Word :=
  sipDigest (sipFinalState (sipCompress (sipAbsorb k0 k1 b (b.length / 8)) (pad b)))

/-- k0 of a 16-byte key: bytes 0..7 little-endian (R117, spec/20_memory.md R68). -/
def keyWord0 (key : List Byte) : Word := wordLE (key.take 8)

/-- k1 of a 16-byte key: bytes 8..15 little-endian. -/
def keyWord1 (key : List Byte) : Word := wordLE ((key.drop 8).take 8)

/-- SipHash24(K, b) (R117). -/
def sipHash24 (key b : List Byte) : Word := sipHashWords (keyWord0 key) (keyWord1 key) b

/-! ## The hash commands -/

/-- The gate of HASH_BLOCK and HASH_FINAL: NO_ACTIVE_HASH while HASH_ACTIVE = 0 (R120, R121, decision D18). -/
def hashGate (s : State) (effect : State) : Answer :=
  if s.hashActive then succeed effect else raiseError .noActiveHash s

/-- The writes of HASH_BLOCK (R120). -/
def State.absorbBlock (s : State) : State :=
  { s with v := sipCompress s.v s.data, hlen := s.hlen + 8#64 }

/-- The writes of HASH_FINAL t (R121). -/
def State.finalizeHash (t : Nat) (s : State) : State :=
  let len := s.hlen + BitVec.ofNat 64 t
  let vf := sipFinalState (sipCompress s.v (padBlock len (tailOf s.data t)))
  { s with v := vf, digest := sipDigest vf, hlen := len, hashActive := false }

/-- HASH_INIT (R119): valid in every state, with or without a configuration or a message in progress. -/
def execHashInit (s : State) : Answer :=
  succeed { s with v := sipInit s.ka0 s.ka1, hlen := 0#64, hashActive := true }

/-- HASH_BLOCK (R120). -/
def execHashBlock (s : State) : Answer := hashGate s s.absorbBlock

/-- HASH_FINAL t (R121). -/
def execHashFinal (tlen : Nat) (s : State) : Answer := hashGate s (s.finalizeHash tlen)

end Sys2Proof.Machine
end

