-- ==== Sys2Proof/Machine/Dispatch.lean ====
section
/-! DEFINITION. One arm per command of spec/opcode_table.json: the completion of that command (spec/60_exceptions.md R203). -/

namespace Sys2Proof.Machine

-- The completion of command `i` in state `s`.
def exec (i : Instr) (s : State) : Host.Outcome State Fault Refusal :=
  match i with
  | .nop => Sys2Proof.Machine.execNop s
  | .config => Sys2Proof.Machine.execConfig s
  | .hashInit => Sys2Proof.Machine.execHashInit s
  | .hashBlock => Sys2Proof.Machine.execHashBlock s
  | .hashFinal tlen => Sys2Proof.Machine.execHashFinal tlen s
  | .add => Sys2Proof.Machine.execAdd s
  | .remove => Sys2Proof.Machine.execRemove s
  | .contains => Sys2Proof.Machine.execContains s

end Sys2Proof.Machine
end

