-- ==== Sys2Proof/Machine/Agents.lean ====
section
/-! DEFINITION. The two agents (spec/20_memory.md R60) and which of them moves next. The engine moves only while BUSY = 1
(spec/60_exceptions.md R203); while a command is pending the host makes `latency` more accesses before the engine completes it, a
free finite number (R204, log entry 8). -/

namespace Sys2Proof.Machine

/-- Who moves next. -/
inductive Turn where
  | engine
  | host (e : HostEvent) (rest : List HostEvent)
  | idle
  deriving DecidableEq, Repr

/-- The agent that moves next. With no command pending and no access to make, neither does (spec/70_reset_and_hazards.md
R222). -/
def State.turn (s : State) : Turn :=
  match s.busy, s.inbox with
  | false, [] => .idle
  | false, e :: rest => .host e rest
  | true, [] => .engine
  | true, e :: rest => if s.latency = 0 then .engine else .host e rest

/-- The engine's one step: decode PEND and complete the command (R203, spec/30_encoding.md R94). -/
def engineStep (s : State) : Answer :=
  match decode s.pend with
  | .ok i => exec i s
  | .error _ => completeIllegal s

/-- The event is taken from the host's list, and one host access less comes before the completion. -/
def State.take (rest : List HostEvent) (s : State) : State := { s with inbox := rest, latency := s.latency - 1 }

/-- The host's step. -/
def hostStep (e : HostEvent) (rest : List HostEvent) (s : State) : Answer := hostEvent e (s.take rest)

/-- The step of the agent whose turn it is; an idle block stays as it is (log entry 11). -/
def agentStep (s : State) : Answer :=
  match s.turn with
  | .engine => engineStep s
  | .host e rest => hostStep e rest s
  | .idle => .next s

/-- `s` with the command word `w` issued and the engine's completion of it the next step. -/
def State.pendNow (w : Word) (s : State) : State := { s with pend := w, busy := true, latency := 0 }

end Sys2Proof.Machine
end

