-- ==== Sys2Proof/Machine/Step.lean ====
section
/-! DEFINITION. One step of the machine: one agent moves (spec/20_memory.md R60). -/

namespace Sys2Proof.Machine

/-- One step. -/
def step (s : State) : Host.Outcome State Fault Refusal := agentStep s

/-- `s` with the command word `w` (its low `nbits` bits) pending, BUSY = 1 and no host access before its completion, so that
the next step completes exactly that command (log entry 7: the block fetches nothing, a command comes from a host write). -/
def State.withFetchWord (s : State) (nbits w : Nat) : State := s.pendNow (tableWord nbits w)

end Sys2Proof.Machine
end

