-- ==== Sys2Proof/Safety.lean ====
section
/-! DEFINITION. What the spec says holds of every reachable state (spec/10_state.md R51, spec/41_filter.md R157), in the terms the
statements use. -/

namespace Sys2Proof.Machine

/-- The active configuration is one CONFIG accepts, or there is none and its registers and the item count are 0 (R51 item 1
and R51's last sentence). -/
def State.ConfigConsistent (s : State) : Prop :=
  if s.cfgValid then configOk s.cfgK s.cfgO s.cfgMaxc = true
  else s.cfgK = 0#64 ∧ s.cfgO = 0#64 ∧ s.cfgMaxc = 0#64 ∧ s.itemCount = 0#64

/-- The counters are in canonical form and every listed one exists. -/
def State.CountersCanonical (s : State) : Prop := s.cnt.wf = true ∧ s.cnt.inRange

/-- No configured counter is above max_count (R51 item 2). -/
def State.CountersBounded (s : State) : Prop :=
  s.cfgValid = true → ∀ j < s.window, (s.cnt.read j).toNat ≤ s.cfgMaxc.toNat

/-- The sum of the configured counters. -/
def State.counterSum (s : State) : Nat := ((List.range s.window).map (fun j => (s.cnt.read j).toNat)).sum

/-- The sum of the configured counters is CFG_K · ITEM_COUNT (R51 item 3, R157). -/
def State.SumInvariant (s : State) : Prop :=
  s.cfgValid = true → s.counterSum = s.cfgK.toNat * s.itemCount.toNat

/-- The state invariant of R51, with the counters' canonical form. The spec claims it while BUSY = 0; here it holds while BUSY = 1
as well, since a pending command has written nothing but PEND and BUSY (spec/70_reset_and_hazards.md R229). -/
structure State.Inv (s : State) : Prop where
  config : s.ConfigConsistent
  canonical : s.CountersCanonical
  bounded : s.CountersBounded
  sum : s.SumInvariant

/-- The state words and the length are those of the message `b` after its first `i` full blocks, under the active key
(spec/40_siphash.md R122, its proof step). -/
structure State.Absorbed (b : List Byte) (i : Nat) (s : State) : Prop where
  active : s.hashActive = true
  words : s.v = sipAbsorb s.ka0 s.ka1 b i
  length : s.hlen = BitVec.ofNat 64 (8 * i)

/-- Each configured counter is the number of digests of `live` that have it among their positions
(spec/41_filter.md R159). -/
def State.Tracks (live : List Word) (s : State) : Prop :=
  ∀ j < s.window,
    (s.cnt.read j).toNat = live.countP (fun h => decide (j ∈ positions h s.cfgK.toNat s.cfgO.toNat))

/-- An access the spec gives a meaning: 64 bits wide, at a multiple of 8 below 0x100 (spec/20_memory.md R66). -/
def HostEvent.meaningful : HostEvent → Bool
  | .read width off => width == 64 && decide (off < 0x100) && off % 8 == 0
  | .write width off _ => width == 64 && decide (off < 0x100) && off % 8 == 0
  | .poll => true
  | .reset => true

/-- The host cannot tell `s` from `t` but by the key: they agree on everything except the staged key, the active key and the
SipHash state words (spec/60_exceptions.md R200). -/
def State.SameButKey (s t : State) : Prop :=
  t = { s with key0 := t.key0, key1 := t.key1, ka0 := t.ka0, ka1 := t.ka1, v := t.v }

end Sys2Proof.Machine
end

