-- ==== Sys2Proof/Certificates/Slice0/Obligations.lean ====
section
/-! DEFINITION. The statements for the provers. Each docstring names the rule of the spec it formalises, or says that it rests on an
inference of the spec or on a choice of the model (with its log entry). -/

open Sys2Proof Sys2Proof.Machine

/-! ## Encoding -/

/-- Words of R93's table and of R99 (section 2 and 4 of spec/30_encoding.md) decode as they stand there. -/
def Obligations.TableWordsDecode : Prop :=
  decode 0x0000000000000000#64 = .ok .nop ∧ decode 0x0000000000000001#64 = .ok .config ∧
    decode 0x0000000000000010#64 = .ok .hashInit ∧ decode 0x0000000000000011#64 = .ok .hashBlock ∧
      decode 0x0000000000000012#64 = .ok (.hashFinal 0) ∧ decode 0x0000000000000712#64 = .ok (.hashFinal 7) ∧
        decode 0x0000000000000020#64 = .ok .add ∧ decode 0x0000000000000021#64 = .ok .remove ∧
          decode 0x0000000000000022#64 = .ok .contains

/-- Decode and encode agree, both ways: a word decodes to `i` exactly when `i` is a command the encoding carries and the word is
its encoding. So every operand value survives, and each command has one word. -/
def Obligations.DecodeAgreesWithEncode : Prop :=
  ∀ (w : Word) (i : Instr), decode w = .ok i ↔ WellFormed i ∧ encode i = w

/-- R95 and R181: exactly the words with RSV ≠ 0, with an unassigned OPC (248 values), or with TLEN ≠ 0 and OPC ≠ 0x12 are illegal; NOP
is only the word 0; the engine completes every illegal word by writing ILLEGAL_COMMAND and clearing BUSY and nothing else. -/
def Obligations.IllegalWordsAreExactlyThese : Prop :=
  (∀ w : Word, (∃ e, decode w = .error e) ↔
      w.extractLsb 63 11 ≠ 0 ∨
        w.extractLsb 7 0 ∉ [0x00#8, 0x01#8, 0x10#8, 0x11#8, 0x12#8, 0x20#8, 0x21#8, 0x22#8] ∨
          (w.extractLsb 7 0 ≠ 0x12#8 ∧ w.extractLsb 10 8 ≠ 0)) ∧
    ((List.range 256).countP
        (fun c => decide (c ∉ [0x00, 0x01, 0x10, 0x11, 0x12, 0x20, 0x21, 0x22]))) = 248 ∧
      (∀ w : Word, decode w = .ok .nop ↔ w = 0#64) ∧
        ∀ s : State, (∃ e, decode s.pend = .error e) →
          engineStep s = .next { s with err := .illegalCommand, busy := false }

/-! ## The step -/

/-- The engine's step is the completion of the pending word, whatever PEND holds: of the decoded command, or of an illegal word with
ILLEGAL_COMMAND (R181, R203). That the engine moves when the host has no access left before the completion is the model's reading of
R204 (log entry 8). -/
def Obligations.StepCompletesThePendingCommand : Prop :=
  ∀ s : State, s.busy = true → s.inbox = [] ∨ s.latency = 0 →
    step s = engineStep s ∧ (∀ i, decode s.pend = .ok i → step s = exec i s) ∧
      ∀ e, decode s.pend = .error e → step s = .next { s with err := .illegalCommand, busy := false }

/-- The host's step takes the first access of its list. The list and the count of accesses are the model's own (log entries 7
and 8). -/
def Obligations.StepMakesTheNextHostAccess : Prop :=
  ∀ (s : State) (e : HostEvent) (rest : List HostEvent), s.inbox = e :: rest → s.busy = false ∨ s.latency ≠ 0 →
    step s = hostEvent e { s with inbox := rest, latency := s.latency - 1 }

/-- With no command pending and no access to make the machine stays as it is (log entry 11), and only then is neither agent
able to move: in every other state a step is the engine's, which needs BUSY = 1 (R203), or the host's, which makes the first access
the host has. -/
def Obligations.IdleBlockWaits : Prop :=
  ∀ s : State,
    (s.busy = false → s.inbox = [] → step s = .next s) ∧
      (s.busy = true ∨ s.inbox ≠ [] →
        (s.busy = true ∧ step s = engineStep s) ∨
          ∃ e rest, s.inbox = e :: rest ∧ step s = hostStep e rest s)

/-- A step from a state that meets the invariant never faults, and stops only at a host access the spec gives no meaning. Rests on
R204 ("no command can hang") and R66, and on the model's fault (log entry 12) and refusals (log entry 13). -/
def Obligations.StepStopsOnlyAtMeaninglessAccess : Prop :=
  ∀ s : State, s.Inv →
    (∃ t, step s = .next t) ∨
      ∃ e rest r, s.inbox = e :: rest ∧ e.meaningful = false ∧ step s = .refused r

/-- A pending command completes after at most `latency` host accesses. Rests on R204's finite delay in the model's form of it (log
entry 8); the host's accesses have a meaning and none is a reset, which would discard the command. -/
def Obligations.PendingCommandCompletes : Prop :=
  ∀ s : State, s.Inv → s.busy = true → (∀ e ∈ s.inbox, e.meaningful = true ∧ e ≠ .reset) →
    ∃ n t, n ≤ s.latency + 1 ∧ Host.Core.run Sys2Proof.core n s = .next t ∧ t.busy = false

/-- Between issue and completion a command changes no architectural state, and the host changes DROP only: PEND and every operand
register keep the value they had at issue. Rests on R229 and on R47's inference; inbox, rsp, latency and draws are the model's own
(log entries 1, 7, 8, 9). -/
def Obligations.OperandsAreFrozenWhileBusy : Prop :=
  ∀ s t : State, s.busy = true → step s = .next t → t.busy = true →
    t = { s with drop := t.drop, inbox := t.inbox, rsp := t.rsp, latency := t.latency, draws := t.draws }

/-! ## Host accesses -/

/-- R64: RegWrite. What the write does to the model's own rsp, latency and draws is the model's (log entries 8, 9). -/
def Obligations.RegWriteFollowsItsChain : Prop :=
  ∀ (s : State) (off : Nat) (v : Word), off < 0x100 → off % 8 = 0 →
    ∃ t, hostEvent (.write 64 off v) s = .next t ∧
      if off = 0x10 then t = { s with drop := if v.getLsbD 4 then false else s.drop, rsp := none }
      else if s.busy = true ∧ off ∈ [0x08, 0x18, 0x20, 0x28, 0x30, 0x38, 0x40, 0x48, 0x78] then
        t = { s with drop := true, rsp := none }
      else if off = 0x08 then
        t = { s with pend := v, busy := true, rsp := none, latency := t.latency, draws := t.draws }
      else if off = 0x18 then t = { s with key0 := v, rsp := none }
      else if off = 0x20 then t = { s with key1 := v, rsp := none }
      else if off = 0x28 then t = { s with data := v, rsp := none }
      else if off = 0x30 then t = { s with digest := v, rsp := none }
      else if off = 0x38 then t = { s with paramK := v, rsp := none }
      else if off = 0x40 then t = { s with paramO := v, rsp := none }
      else if off = 0x48 then t = { s with paramMaxc := v, rsp := none }
      else if off = 0x78 then t = { s with cntIndex := v, rsp := none }
      else t = { s with rsp := none }

/-- R65: RegRead, with R43's value of CNT_DATA. The read changes no state of the block. While BUSY = 1 nothing is said of the value
that the last arms would give. The premise is R51 item 1, which the model needs for CNT_DATA (log entry 12). -/
def Obligations.RegReadFollowsItsChain : Prop :=
  ∀ (s : State) (off : Nat), off < 0x100 → off % 8 = 0 →
    (s.cfgValid = true → configOk s.cfgK s.cfgO s.cfgMaxc = true) →
      ∃ t w, hostEvent (.read 64 off) s = .next t ∧ t = { s with rsp := some w, draws := t.draws } ∧
        (off = 0x00 → w = 0x5349504342460001#64) ∧ (off = 0x10 → w = s.statusWord) ∧
          (off ∈ [0x08, 0x18, 0x20] → w = 0#64) ∧ (0x88 ≤ off → w = 0#64) ∧
            (s.busy = false →
              (off = 0x28 → w = s.data) ∧ (off = 0x30 → w = s.digest) ∧ (off = 0x38 → w = s.paramK) ∧
                (off = 0x40 → w = s.paramO) ∧ (off = 0x48 → w = s.paramMaxc) ∧ (off = 0x50 → w = s.cfgK) ∧
                  (off = 0x58 → w = s.cfgO) ∧ (off = 0x60 → w = s.cfgMaxc) ∧ (off = 0x68 → w = s.itemCount) ∧
                    (off = 0x70 → w = s.hlen) ∧ (off = 0x78 → w = s.cntIndex) ∧
                      (off = 0x80 →
                        w = if s.cfgValid = true ∧ s.cntIndex.toNat < s.cfgK.toNat * s.cfgO.toNat
                          then (s.cnt.read s.cntIndex.toNat).setWidth 64 else 0#64))

/-- R66: an access is refused exactly when it is not 64 bits wide, not at a multiple of 8, or not below 0x100. -/
def Obligations.OnlyAlignedWholeAccessesHaveMeaning : Prop :=
  ∀ (s : State) (width off : Nat) (v : Word),
    ((∃ r, hostEvent (.read width off) s = .refused r) ↔ width ≠ 64 ∨ off % 8 ≠ 0 ∨ 0x100 ≤ off) ∧
      ((∃ r, hostEvent (.write width off v) s = .refused r) ↔ width ≠ 64 ∨ off % 8 ≠ 0 ∨ 0x100 ≤ off)

/-- R26: the fields of STATUS, their reset values, and that a host write reaches no bit but bit 4. -/
def Obligations.StatusFieldsStandWhereTheyShould : Prop :=
  (∀ s : State,
      s.statusWord.getLsbD 0 = s.busy ∧ s.statusWord.getLsbD 1 = s.result ∧ s.statusWord.getLsbD 2 = s.cfgValid ∧
        s.statusWord.getLsbD 3 = s.hashActive ∧ s.statusWord.getLsbD 4 = s.drop ∧
          s.statusWord.extractLsb 7 5 = 0#3 ∧ s.statusWord.extractLsb 11 8 = s.err.code ∧
            s.statusWord.extractLsb 63 12 = 0#52) ∧
    State.reset.statusWord = 0#64 ∧
      ∀ (s t : State) (v : Word), hostEvent (.write 64 0x10 v) s = .next t →
        t.statusWord = if v.getLsbD 4 then s.statusWord &&& ~~~0x10#64 else s.statusWord

/-- R23: a read-write register returns what was last written, a write-only register reads 0 and a read-only register ignores the
write, in a state with BUSY = 0. -/
def Obligations.WrittenRegisterReadsBack : Prop :=
  ∀ (s t u : State) (off : Nat) (v : Word), s.busy = false → hostEvent (.write 64 off v) s = .next t →
    hostEvent (.read 64 off) t = .next u →
      (off ∈ [0x28, 0x30, 0x38, 0x40, 0x48, 0x78] → u.rsp = some v) ∧
        (off ∈ [0x18, 0x20] → u.rsp = some 0#64) ∧
          (off ∈ [0x00, 0x50, 0x58, 0x60, 0x68, 0x70, 0x80] →
            hostEvent (.read 64 off) s = .next u ∧ t = { s with rsp := none })

/-- R31: DROP is set by a dropped write only, cleared by a STATUS write with bit 4 or by reset only, the clearing write is accepted
while BUSY = 1, and no completion changes it. -/
def Obligations.DropIsSticky : Prop :=
  (∀ s t : State, step s = .next t →
      (s.drop = false → t.drop = true →
        s.busy = true ∧ ∃ off v rest, s.inbox = .write 64 off v :: rest ∧
          off ∈ [0x08, 0x18, 0x20, 0x28, 0x30, 0x38, 0x40, 0x48, 0x78]) ∧
        (s.drop = true → t.drop = false →
          ∃ rest, s.inbox = .reset :: rest ∨ ∃ v, v.getLsbD 4 = true ∧ s.inbox = .write 64 0x10 v :: rest)) ∧
    (∀ (s : State) (v : Word), v.getLsbD 4 = true →
      ∃ t, hostEvent (.write 64 0x10 v) s = .next t ∧ t.drop = false) ∧
      (∀ (s : State) (off : Nat) (v : Word), s.busy = true →
        off ∈ [0x08, 0x18, 0x20, 0x28, 0x30, 0x38, 0x40, 0x48, 0x78] →
          ∃ t, hostEvent (.write 64 off v) s = .next t ∧ t.drop = true) ∧
        (∀ s t : State, hostEvent .reset s = .next t → t.drop = false) ∧
        ∀ (i : Instr) (s t : State), exec i s = .next t → t.drop = s.drop

/-- R200: the key is readable through no path. Two states that differ only in the staged key, the active key and the state words answer
every host access alike and stay so related; every command does too, but for DIGEST when it is HASH_FINAL. -/
def Obligations.KeyIsUnreadable : Prop :=
  (∀ (s : State), (∃ t, hostEvent (.read 64 0x18) s = .next t ∧ t.rsp = some 0#64) ∧
      ∃ t, hostEvent (.read 64 0x20) s = .next t ∧ t.rsp = some 0#64) ∧
    ∀ s t : State, s.SameButKey t →
      (∀ (e : HostEvent) (s' : State), hostEvent e s = .next s' →
        ∃ t', hostEvent e t = .next t' ∧ t'.rsp = s'.rsp ∧ s'.SameButKey t') ∧
        ∀ (i : Instr) (s' : State), exec i s = .next s' →
          ∃ t', exec i t = .next t' ∧ State.SameButKey { s' with digest := t'.digest } t' ∧
            ((∀ n, i ≠ .hashFinal n) → t'.digest = s'.digest)

/-! ## Reset -/

/-- R50: the reset values the spec gives, in the machine right after reset and after a reset of any running machine. -/
def Obligations.ResetLeavesTheseValues : Prop :=
  ∀ s t : State, t = State.reset ∨ hostEvent .reset s = .next t →
    t.statusWord = 0#64 ∧ t.busy = false ∧ t.result = false ∧ t.cfgValid = false ∧ t.hashActive = false ∧
      t.drop = false ∧ t.err = .none ∧ t.key0 = 0#64 ∧ t.key1 = 0#64 ∧ t.data = 0#64 ∧ t.digest = 0#64 ∧
        t.paramK = 0#64 ∧ t.paramO = 0#64 ∧ t.paramMaxc = 255#64 ∧ t.cfgK = 0#64 ∧ t.cfgO = 0#64 ∧
          t.cfgMaxc = 0#64 ∧ t.itemCount = 0#64 ∧ t.hlen = 0#64 ∧ t.cntIndex = 0#64 ∧ t.ka0 = 0#64 ∧ t.ka1 = 0#64 ∧
            ∃ u, hostEvent (.read 64 0x00) t = .next u ∧ u.rsp = some 0x5349504342460001#64

/-- The invariant holds right after reset and after a reset of any running machine, whatever the counters then hold. Rests on R51's
inference. -/
def Obligations.ResetMeetsInvariant : Prop :=
  State.reset.Inv ∧ ∀ s t : State, hostEvent .reset s = .next t → t.Inv

/-- Every step keeps the invariant: the active configuration is one CONFIG accepts (or all its registers are 0), the counters are
canonical and exist, none is above max_count, and their sum is CFG_K · ITEM_COUNT. Rests on R51's and R157's inferences. -/
def Obligations.StepKeepsInvariant : Prop := ∀ s t : State, s.Inv → step s = .next t → t.Inv

/-! ## Commands: results and frames -/

/-- R180: NOP is the word 0 and completes with ERR <- NONE and BUSY <- 0 and nothing else; issued while BUSY = 1 it is
dropped. -/
def Obligations.NopOnlyCompletes : Prop :=
  decode 0x0000000000000000#64 = .ok .nop ∧
    (∀ s : State, exec .nop s = .next { s with err := .none, busy := false }) ∧
      ∀ s : State, s.busy = true →
        hostEvent (.write 64 0x08 0x0000000000000000#64) s = .next { s with drop := true, rsp := none }

/-- R142 and R143: CONFIG builds an empty filter when cfg_ok holds, and otherwise changes nothing but ERR and BUSY. -/
def Obligations.ConfigBuildsAnEmptyFilter : Prop :=
  decode 0x0000000000000001#64 = .ok .config ∧
  ∀ s : State,
    ((1 ≤ s.paramK.toNat ∧ s.paramK.toNat ≤ Config.kMax) ∧ 1 ≤ s.paramO.toNat ∧
        s.paramK.toNat * s.paramO.toNat ≤ Config.nSlots ∧ 1 ≤ s.paramMaxc.toNat ∧ s.paramMaxc.toNat ≤ 255 →
      ∃ t, exec .config s = .next t ∧
        t = { s with
              cfgK := s.paramK, cfgO := s.paramO, cfgMaxc := s.paramMaxc, ka0 := s.key0, ka1 := s.key1, cnt := t.cnt,
              itemCount := 0#64, hlen := 0#64, cfgValid := true, hashActive := false, err := .none, busy := false } ∧
          ∀ j, t.cnt.read j = if j < s.paramK.toNat * s.paramO.toNat then 0#8 else s.cnt.read j) ∧
      (¬((1 ≤ s.paramK.toNat ∧ s.paramK.toNat ≤ Config.kMax) ∧ 1 ≤ s.paramO.toNat ∧
          s.paramK.toNat * s.paramO.toNat ≤ Config.nSlots ∧ 1 ≤ s.paramMaxc.toNat ∧ s.paramMaxc.toNat ≤ 255) →
        exec .config s = .next { s with err := .invalidConfiguration, busy := false })

/-- HASH_INIT, in every state (R119). The four constants and which key word meets which are the spec's inferences (R110 is marked derived,
R114 general knowledge; log entry 18). -/
def Obligations.HashInitStartsAMessage : Prop :=
  decode 0x0000000000000010#64 = .ok .hashInit ∧
  ∀ s : State,
    exec .hashInit s =
      .next { s with
              v := ⟨s.ka0 ^^^ 0x736f6d6570736575#64, s.ka1 ^^^ 0x646f72616e646f6d#64, s.ka0 ^^^ 0x6c7967656e657261#64,
                s.ka1 ^^^ 0x7465646279746573#64⟩
              hlen := 0#64, hashActive := true, err := .none, busy := false }

/-- R120 with R115's Compress spelt out: HASH_BLOCK puts DATA into v3, runs exactly two SipRounds and puts DATA into v0, or raises
NO_ACTIVE_HASH. -/
def Obligations.HashBlockAbsorbsOneBlock : Prop :=
  decode 0x0000000000000011#64 = .ok .hashBlock ∧
  ∀ s : State,
    (s.hashActive = true →
      exec .hashBlock s =
        .next { s with
                v :=
                  let r := sipRound (sipRound { s.v with v3 := s.v.v3 ^^^ s.data })
                  { r with v0 := r.v0 ^^^ s.data }
                hlen := s.hlen + 8#64, err := .none, busy := false }) ∧
      (s.hashActive = false → exec .hashBlock s = .next { s with err := .noActiveHash, busy := false })

/-- R121 with R115's Compress and R116's Finalize spelt out: HASH_FINAL t absorbs the padding block of the low t bytes of DATA and the
length (two SipRounds), puts 0xff into v2, runs exactly four SipRounds and writes the digest, or raises NO_ACTIVE_HASH. The value is
said for every tail length the encoding carries. -/
def Obligations.HashFinalWritesTheDigest : Prop :=
  ∀ (s : State) (n : Nat), n < 8 →
    decode (BitVec.ofNat 64 (0x12 + n * 0x100)) = .ok (.hashFinal n) ∧
    (s.hashActive = true →
      ∃ t, exec (.hashFinal n) s = .next t ∧
        t = { s with
              v := t.v, digest := t.digest, hlen := s.hlen + BitVec.ofNat 64 n, hashActive := false, err := .none,
              busy := false } ∧
          t.v =
            (let p := BitVec.ofNat 64 ((s.hlen.toNat + n) % 256 * 2 ^ 56 + s.data.toNat % 2 ^ (8 * n))
             let r := sipRound (sipRound { s.v with v3 := s.v.v3 ^^^ p })
             sipRound (sipRound (sipRound (sipRound { r with v0 := r.v0 ^^^ p, v2 := r.v2 ^^^ 0xff#64 })))) ∧
            t.digest = t.v.v0 ^^^ t.v.v1 ^^^ t.v.v2 ^^^ t.v.v3) ∧
      (s.hashActive = false → exec (.hashFinal n) s = .next { s with err := .noActiveHash, busy := false })

/-- R150: ADD raises NOT_CONFIGURED, or raises COUNTER_OVERFLOW with nothing changed when some counter is full, or adds 1 to exactly
the k counters and to ITEM_COUNT. The premises are the invariant's R51 item 1 and canonical form (log entries 4, 12). -/
def Obligations.AddCountsAllPositionsOrNone : Prop :=
  decode 0x0000000000000020#64 = .ok .add ∧
  ∀ s : State, s.cnt.wf = true → (s.cfgValid = true → configOk s.cfgK s.cfgO s.cfgMaxc = true) →
    (s.cfgValid = false → exec .add s = .next { s with err := .notConfigured, busy := false }) ∧
      (s.cfgValid = true → (∃ p ∈ positions s.digest s.cfgK.toNat s.cfgO.toNat,
          s.cfgMaxc.toNat ≤ (s.cnt.read p).toNat) →
        exec .add s = .next { s with err := .counterOverflow, busy := false }) ∧
        (s.cfgValid = true → (∀ p ∈ positions s.digest s.cfgK.toNat s.cfgO.toNat,
            (s.cnt.read p).toNat < s.cfgMaxc.toNat) →
          ∃ t, exec .add s = .next t ∧
            t = { s with cnt := t.cnt, itemCount := s.itemCount + 1#64, err := .none, busy := false } ∧
              ∀ j, (t.cnt.read j).toNat =
                (s.cnt.read j).toNat + if j ∈ positions s.digest s.cfgK.toNat s.cfgO.toNat then 1 else 0)

/-- REMOVE (R154) raises NOT_CONFIGURED, or raises COUNTER_UNDERFLOW with nothing changed when some counter is 0, or takes 1 from
exactly the k counters and from ITEM_COUNT. That ITEM_COUNT is then at least 1 and does not wrap rests on the inference R154 marks as
derived from R157, which is in the premise's invariant, as is the counters' canonical form (log entry 4). -/
def Obligations.RemoveUncountsAllPositionsOrNone : Prop :=
  decode 0x0000000000000021#64 = .ok .remove ∧
  ∀ s : State, s.Inv →
    (s.cfgValid = false → exec .remove s = .next { s with err := .notConfigured, busy := false }) ∧
      (s.cfgValid = true → (∃ p ∈ positions s.digest s.cfgK.toNat s.cfgO.toNat, s.cnt.read p = 0#8) →
        exec .remove s = .next { s with err := .counterUnderflow, busy := false }) ∧
        (s.cfgValid = true → (∀ p ∈ positions s.digest s.cfgK.toNat s.cfgO.toNat, s.cnt.read p ≠ 0#8) →
          ∃ t, exec .remove s = .next t ∧
            t = { s with cnt := t.cnt, itemCount := t.itemCount, err := .none, busy := false } ∧
              t.itemCount.toNat + 1 = s.itemCount.toNat ∧
                ∀ j, (s.cnt.read j).toNat =
                  (t.cnt.read j).toNat + if j ∈ positions s.digest s.cfgK.toNat s.cfgO.toNat then 1 else 0)

/-- R156: CONTAINS raises NOT_CONFIGURED, or sets RESULT to whether every one of the k counters is nonzero, and changes nothing else. -/
def Obligations.ContainsTestsEveryPosition : Prop :=
  decode 0x0000000000000022#64 = .ok .contains ∧
  ∀ s : State, (s.cfgValid = true → configOk s.cfgK s.cfgO s.cfgMaxc = true) →
    (s.cfgValid = false → exec .contains s = .next { s with err := .notConfigured, busy := false }) ∧
      (s.cfgValid = true →
        ∃ t, exec .contains s = .next t ∧ t = { s with result := t.result, err := .none, busy := false } ∧
          (t.result = true ↔ ∀ p ∈ positions s.digest s.cfgK.toNat s.cfgO.toNat, s.cnt.read p ≠ 0#8))

/-! ## Errors and flags -/

/-- R190: the numbers of the codes, which command raises which, and its cause. ILLEGAL_COMMAND is raised by exactly the words that
do not decode; codes 7-15 are never written; an error records nothing beyond its code. -/
def Obligations.ErrorCodesAndWhoRaisesThem : Prop :=
  (ErrCode.none.code = 0#4 ∧ ErrCode.invalidConfiguration.code = 1#4 ∧ ErrCode.counterOverflow.code = 2#4 ∧
      ErrCode.counterUnderflow.code = 3#4 ∧ ErrCode.notConfigured.code = 4#4 ∧ ErrCode.noActiveHash.code = 5#4 ∧
        ErrCode.illegalCommand.code = 6#4 ∧ ∀ e : ErrCode, e.code.toNat < 7) ∧
    (∀ s t : State, engineStep s = .next t →
      (t.err = .illegalCommand ↔ ∃ e, decode s.pend = .error e) ∧
        (t.err ≠ .none → t = { s with err := t.err, busy := false })) ∧
    ∀ (i : Instr) (s t : State), exec i s = .next t →
      (t.err = .invalidConfiguration → i = .config ∧ configOk s.paramK s.paramO s.paramMaxc = false) ∧
        (t.err = .counterOverflow → i = .add ∧
          ∃ p ∈ positions s.digest s.cfgK.toNat s.cfgO.toNat, s.cfgMaxc.toNat ≤ (s.cnt.read p).toNat) ∧
        (t.err = .counterUnderflow → i = .remove ∧
          ∃ p ∈ positions s.digest s.cfgK.toNat s.cfgO.toNat, s.cnt.read p = 0#8) ∧
          (t.err = .notConfigured → (i = .add ∨ i = .remove ∨ i = .contains) ∧ s.cfgValid = false) ∧
            (t.err = .noActiveHash → (i = .hashBlock ∨ ∃ n, i = .hashFinal n) ∧ s.hashActive = false) ∧
              t.err ≠ .illegalCommand

/-- R191: a command that raises an error changes nothing but ERR and BUSY, an illegal word included, and is completed by it. -/
def Obligations.ErrorsChangeNothingElse : Prop :=
  (∀ (i : Instr) (s t : State), exec i s = .next t → t.err ≠ .none → t = { s with err := t.err, busy := false }) ∧
    ∀ s t : State, engineStep s = .next t → t.err ≠ .none → t = { s with err := t.err, busy := false }

/-- The same command on the state an error left raises the same error again. Rests on R192's inference. -/
def Obligations.ErrorsRepeat : Prop :=
  ∀ (i : Instr) (s t : State), exec i s = .next t → t.err ≠ .none → exec i t = .next t

/-- Which completion writes which flag. Rests on R49's table, which the spec derives from the command rules. -/
def Obligations.CompletionWritesOnlyItsFlags : Prop :=
  ∀ (i : Instr) (s t : State), exec i s = .next t →
    t.busy = false ∧ t.drop = s.drop ∧ (i ≠ .contains ∨ t.err ≠ .none → t.result = s.result) ∧
      (i ≠ .config ∨ t.err ≠ .none → t.cfgValid = s.cfgValid) ∧ (i = .config → t.err = .none → t.cfgValid = true) ∧
        ((i ≠ .config ∧ i ≠ .hashInit ∧ ∀ n, i ≠ .hashFinal n) ∨ t.err ≠ .none → t.hashActive = s.hashActive) ∧
          (i = .hashInit → t.hashActive = true) ∧
            (∀ n, i = .config ∨ i = .hashFinal n → t.err = .none → t.hashActive = false) ∧
              (i = .nop ∨ i = .hashInit → t.err = .none)

/-! ## Whole-machine frames -/

/-- The active key changes only when a CONFIG succeeds, which copies the staged key and empties the filter in the same step, or at a
reset. Rests on R144's inference. -/
def Obligations.ActiveKeyChangesOnlyAtConfig : Prop :=
  ∀ s t : State, step s = .next t → (t.ka0 ≠ s.ka0 ∨ t.ka1 ≠ s.ka1) →
    (s.busy = true ∧ decode s.pend = .ok .config ∧ t.err = .none ∧ t.ka0 = s.key0 ∧ t.ka1 = s.key1 ∧
        t.itemCount = 0#64 ∧ ∀ j < t.window, t.cnt.read j = 0#8) ∨
      ∃ rest, s.inbox = .reset :: rest ∧ t.ka0 = 0#64 ∧ t.ka1 = 0#64

/-- R39: only a successful CONFIG writes the active parameters, copying the staged ones; reset sets them to 0; a host write does not
reach them. -/
def Obligations.ActiveParametersChangeOnlyAtConfig : Prop :=
  ∀ s t : State, step s = .next t →
    (t.cfgK = s.cfgK ∧ t.cfgO = s.cfgO ∧ t.cfgMaxc = s.cfgMaxc) ∨
      (s.busy = true ∧ decode s.pend = .ok .config ∧ t.err = .none ∧ t.cfgK = s.paramK ∧ t.cfgO = s.paramO ∧
        t.cfgMaxc = s.paramMaxc) ∨
        ∃ rest, s.inbox = .reset :: rest ∧ t.cfgK = 0#64 ∧ t.cfgO = 0#64 ∧ t.cfgMaxc = 0#64

/-- ITEM_COUNT is the net number of successful ADDs and REMOVEs since the last successful CONFIG: what each completion adds to it.
Rests on R161's inference. -/
def Obligations.ItemCountIsTheNetCount : Prop :=
  ∀ (i : Instr) (s t : State), s.Inv → exec i s = .next t →
    t.itemCount.toNat =
      if t.err = .none ∧ i = .config then 0
      else if t.err = .none ∧ i = .add then s.itemCount.toNat + 1
      else if t.err = .none ∧ i = .remove then s.itemCount.toNat - 1
      else s.itemCount.toNat

/-- The hash commands write V, HLEN, HASH_ACTIVE, DIGEST, ERR and BUSY only, and what they write depends on those, DATA and the active
key only. Rests on R123's inference. -/
def Obligations.HashCommandsLeaveTheFilterAlone : Prop :=
  ∀ (i : Instr) (s t : State), (i = .hashInit ∨ i = .hashBlock ∨ ∃ n, i = .hashFinal n) → exec i s = .next t →
    t = { s with
          v := t.v, hlen := t.hlen, hashActive := t.hashActive, digest := t.digest, err := t.err, busy := false } ∧
      ((i = .hashInit ∨ i = .hashBlock) → t.digest = s.digest) ∧
        ∀ s' t' : State, s'.v = s.v → s'.hlen = s.hlen → s'.hashActive = s.hashActive → s'.data = s.data →
          s'.ka0 = s.ka0 → s'.ka1 = s.ka1 → s'.digest = s.digest → exec i s' = .next t' →
            t'.v = t.v ∧ t'.hlen = t.hlen ∧ t'.hashActive = t.hashActive ∧ t'.digest = t.digest ∧ t'.err = t.err

/-- ADD, REMOVE and CONTAINS write CNT, ITEM_COUNT, RESULT, ERR and BUSY only, so a hash in progress, the digest and the configuration
stay. Rests on R163's inference. -/
def Obligations.FilterCommandsLeaveTheHashAlone : Prop :=
  ∀ (i : Instr) (s t : State), (i = .add ∨ i = .remove ∨ i = .contains) → exec i s = .next t →
    t = { s with cnt := t.cnt, itemCount := t.itemCount, result := t.result, err := t.err, busy := false } ∧
      (i = .contains → t.cnt = s.cnt ∧ t.itemCount = s.itemCount)

/-- No command writes a counter at or above CFG_K · CFG_O of the configuration it leaves. Rests on R63's inference. -/
def Obligations.UnusedCountersAreNeverWritten : Prop :=
  ∀ (i : Instr) (s t : State), s.Inv → exec i s = .next t → ∀ j, t.window ≤ j → t.cnt.read j = s.cnt.read j

/-! ## The hash -/

/-- The parallel form of SipRound is the sequential program. Rests on R113, whose text the spec takes from general knowledge (log
entry 18). -/
def Obligations.ParallelRoundIsTheSequentialOne : Prop := ∀ v : SipState, sipRound v = sipRoundSeq v

/-- The command sequence of a message computes its hash: HASH_INIT starts it, HASH_BLOCK absorbs block i, HASH_FINAL with the tail
writes SipHash24 of the whole message and its length; NOP, a failing CONFIG, ADD, REMOVE and CONTAINS may come between. Rests on
R122's inference. -/
def Obligations.CommandSequenceComputesTheHash : Prop :=
  ∀ b : List Byte,
    (∀ s : State, ∃ t, exec .hashInit s = .next t ∧ t.Absorbed b 0 ∧ t.ka0 = s.ka0 ∧ t.ka1 = s.ka1) ∧
      (∀ (s : State) (i : Nat), s.Absorbed b i → s.data = blockAt b i →
        ∃ t, exec .hashBlock s = .next t ∧ t.Absorbed b (i + 1) ∧ t.ka0 = s.ka0 ∧ t.ka1 = s.ka1) ∧
        (∀ s : State, s.Absorbed b (b.length / 8) →
          s.data.toNat % 2 ^ (8 * (b.length % 8)) = packLE (tailBytes b) →
            ∃ t, exec (.hashFinal (b.length % 8)) s = .next t ∧ t.digest = sipHashWords s.ka0 s.ka1 b ∧
              t.hlen = BitVec.ofNat 64 b.length ∧ t.hashActive = false) ∧
          ∀ (i : Instr) (n : Nat) (s t : State), s.Absorbed b n → exec i s = .next t →
            (i = .nop ∨ (i = .config ∧ t.err ≠ .none) ∨ i = .add ∨ i = .remove ∨ i = .contains) → t.Absorbed b n

/-! ## Positions -/

/-- Position i lies in segment i, the positions of a digest are pairwise distinct, and all are below k·o. Rests on R148's inference. -/
def Obligations.PositionsLieInTheirSegments : Prop :=
  ∀ (h : Word) (k o : Nat), 1 ≤ o →
    (∀ i < k, i * o ≤ position h o i ∧ position h o i < (i + 1) * o) ∧ (positions h k o).Nodup ∧
      ∀ p ∈ positions h k o, p < k * o

/-- The narrow-adder form gives the same slots, and no intermediate value reaches 2·o. Rests on R149's inference. -/
def Obligations.IncrementalSlotsAreExact : Prop :=
  ∀ (h : Word) (o i : Nat), 1 ≤ o →
    slotIncremental h o i = slot h o i ∧ slotIncremental h o i + lowHalf h % o < 2 * o

/-- A 64-bit datapath computes h1 + i·h2 exactly for every position index a configuration admits. Rests on R147's inference. -/
def Obligations.SixtyFourBitPositionsAreExact : Prop :=
  ∀ (h k : Word) (o maxc : Word) (i : Nat), configOk k o maxc = true → i < k.toNat →
    ((h >>> 32) + BitVec.ofNat 64 i * (h &&& 0xffffffff#64)).toNat = highHalf h + i * lowHalf h ∧
      (((h >>> 32) + BitVec.ofNat 64 i * (h &&& 0xffffffff#64)) % o + BitVec.ofNat 64 i * o).toNat =
        position h o.toNat i

/-! ## Filter laws -/

/-- ITEM_COUNT ≤ CFG_O · CFG_MAXC ≤ 255 · N_SLOTS < 2^40. Rests on R158's inference. -/
def Obligations.ItemCountIsBounded : Prop :=
  ∀ s : State, s.Inv →
    s.itemCount.toNat ≤ s.cfgO.toNat * s.cfgMaxc.toNat ∧
      s.cfgO.toNat * s.cfgMaxc.toNat ≤ 255 * Config.nSlots ∧ 255 * Config.nSlots < 2 ^ 40

/-- After a successful ADD, a REMOVE of the same digest, with the counters, the count and the configuration left alone in between,
succeeds and brings the counters and the count back exactly. Rests on R160's inference. -/
def Obligations.RemoveUndoesAdd : Prop :=
  ∀ s t u : State, s.Inv → exec .add s = .next t → t.err = .none →
    u.digest = s.digest → u.cnt = t.cnt → u.itemCount = t.itemCount → u.cfgValid = t.cfgValid → u.cfgK = t.cfgK →
      u.cfgO = t.cfgO → u.cfgMaxc = t.cfgMaxc →
        exec .remove u = .next { u with cnt := s.cnt, itemCount := s.itemCount, err := .none, busy := false }

/-- No false negatives. While each counter is the number of live ADDs that have it among their positions, ADD and a REMOVE of a live
digest keep it so, the other commands do not disturb it, CONFIG starts it with no live ADD, and CONTAINS of a live digest gives
RESULT = 1. Rests on R159's inference. -/
def Obligations.NoFalseNegatives : Prop :=
  ∀ (s : State) (live : List Word), s.Inv →
    (∀ t, exec .config s = .next t → t.err = .none → t.Tracks []) ∧
      (s.cfgValid = true → s.Tracks live →
        (∀ t, exec .add s = .next t → t.err = .none → t.Tracks (s.digest :: live)) ∧
          (s.digest ∈ live → ∃ t, exec .remove s = .next t ∧ t.err = .none ∧ t.Tracks (live.erase s.digest)) ∧
            (s.digest ∈ live → ∃ t, exec .contains s = .next t ∧ t.result = true) ∧
              ∀ i t, i ≠ .config → i ≠ .add → i ≠ .remove → exec i s = .next t → t.Tracks live)

/-- Right after CONFIG every CONTAINS gives 0, whatever the digest. R156's corner case. -/
def Obligations.EmptyFilterContainsNothing : Prop :=
  ∀ s t u : State, exec .config s = .next t → t.err = .none → u.cnt = t.cnt → u.cfgValid = t.cfgValid →
    u.cfgK = t.cfgK → u.cfgO = t.cfgO → u.cfgMaxc = t.cfgMaxc →
      ∃ x, exec .contains u = .next x ∧ x.err = .none ∧ x.result = false

/-! ## The platform -/

/-- The block answers at the 256 bytes at BASE and nowhere else, whatever multiple of 256 the platform chose: the low eight bits of such
an address are the offset, each register stands at BASE plus its offset, and no two registers share an address. Rests on
decision D2 (BASE is 256-byte aligned) and on the model's form of a platform access (log entry 15). -/
def Obligations.PlatformAddressesReachTheBlockAtBase : Prop :=
  Config.base % 0x100 = 0 ∧
    (∀ (width addr : Nat) (v : Word),
      (Config.base ≤ addr → addr < Config.base + 0x100 →
        busRead width addr = some (.read width (addr % 0x100)) ∧
          busWrite width addr v = some (.write width (addr % 0x100) v)) ∧
        (addr < Config.base ∨ Config.base + 0x100 ≤ addr → busRead width addr = none ∧ busWrite width addr v = none)) ∧
      (∀ (r : Reg) (v : Word),
        r.address = Config.base + r.offset ∧ busRead 64 r.address = some (.read 64 r.offset) ∧
          busWrite 64 r.address v = some (.write 64 r.offset v) ∧
            (HostEvent.read 64 r.offset).meaningful = true) ∧
        ∀ r q : Reg, r.address = q.address → r = q
end

