-- ==== Sys2Proof/Laws/Memory.lean ====
section
/-! SUPPORT. The laws of the counter array: a read after a write, a write leaves every other counter alone, every operation
keeps the canonical form, and canonical arrays with equal counters are equal data. -/

namespace Sys2Proof.Machine

@[simp] theorem Memory.read_nil (j : Nat) : Memory.read [] j = Memory.unlisted := rfl

theorem Memory.read_cons (a : Nat) (b : Byte) (m : Memory) (j : Nat) :
    Memory.read ((a, b) :: m) j = if a = j then b else Memory.read m j := rfl

theorem Memory.wf_cons (a : Nat) (b : Byte) (m : Memory) :
    Memory.wf ((a, b) :: m) = true ↔ b ≠ Memory.unlisted ∧ (∀ c ∈ m, a < c.1) ∧ Memory.wf m = true := by
  simp [Memory.wf, and_assoc]

/-- A counter below every listed index is unlisted. -/
theorem Memory.read_of_lt {m : Memory} {j : Nat} (h : ∀ c ∈ m, j < c.1) : m.read j = Memory.unlisted := by
  induction m with
  | nil => rfl
  | cons c m ih =>
    obtain ⟨a, b⟩ := c
    have ha : j < a := h (a, b) (by simp)
    rw [Memory.read_cons, if_neg (by omega)]
    exact ih fun c hc => h c (by simp [hc])

/-- A listed index stays listed or is the written one. -/
theorem Memory.mem_write {m : Memory} {j : Nat} {b : Byte} {c : Host.Cell} (h : c ∈ m.write j b) :
    c ∈ m ∨ c = (j, b) := by
  induction m with
  | nil => simp only [Memory.write] at h; split at h <;> simp_all
  | cons d m ih =>
    obtain ⟨a, e⟩ := d
    simp only [Memory.write] at h
    split_ifs at h
    · rcases List.mem_cons.mp h with rfl | h
      · simp
      · rcases ih h with h | h <;> simp [h]
    all_goals simp_all
    all_goals tauto

/-- Writing keeps the canonical form. -/
theorem Memory.wf_write {m : Memory} (h : m.wf = true) (j : Nat) (b : Byte) : (m.write j b).wf = true := by
  induction m with
  | nil =>
    simp only [Memory.write]
    split
    · rfl
    · rename_i hb; simp [hb, Memory.wf]
  | cons c m ih =>
    obtain ⟨a, e⟩ := c
    obtain ⟨he, ha, hm⟩ := (Memory.wf_cons a e m).mp h
    simp only [Memory.write]
    split_ifs with h1 h2 h3 h3
    · refine (Memory.wf_cons ..).mpr ⟨he, fun c hc => ?_, ih hm⟩
      rcases Memory.mem_write hc with hc | rfl
      · exact ha c hc
      · exact h1
    · exact hm
    · exact (Memory.wf_cons ..).mpr ⟨h3, fun c hc => h2 ▸ ha c hc, hm⟩
    · exact h
    · refine (Memory.wf_cons ..).mpr ⟨h3, fun c hc => ?_, h⟩
      rcases List.mem_cons.mp hc with rfl | hc
      · exact lt_of_le_of_ne (not_lt.mp h1) fun h => h2 h.symm
      · exact lt_of_le_of_lt (not_lt.mp h1) (ha c hc)

/-- A read after a write gives the value written; every other counter is as before. -/
theorem Memory.read_write {m : Memory} (h : m.wf = true) (j : Nat) (b : Byte) (i : Nat) :
    (m.write j b).read i = if i = j then b else m.read i := by
  induction m with
  | nil =>
    simp only [Memory.write]
    split_ifs with h1 h2 h2
    · rw [h1]; rfl
    · rfl
    · simp [Memory.read_cons, h2]
    · simp [Memory.read_cons, Ne.symm h2]
  | cons c m ih =>
    obtain ⟨a, e⟩ := c
    obtain ⟨he, ha, hm⟩ := (Memory.wf_cons a e m).mp h
    simp only [Memory.write]
    split_ifs <;> grind [Memory.read_cons, Memory.read_of_lt]

/-- The written counter. -/
theorem Memory.read_write_self {m : Memory} (h : m.wf = true) (j : Nat) (b : Byte) : (m.write j b).read j = b := by
  simp [Memory.read_write h]

/-- The other counters. -/
theorem Memory.read_write_other {m : Memory} (h : m.wf = true) {i j : Nat} (b : Byte) (hij : i ≠ j) :
    (m.write j b).read i = m.read i := by
  simp [Memory.read_write h, hij]

/-- Writing an existing counter lists existing counters only. -/
theorem Memory.inRange_write {m : Memory} (h : m.inRange) {j : Nat} (hj : j < Config.nSlots) (b : Byte) :
    (m.write j b).inRange := by
  intro c hc
  rcases Memory.mem_write hc with hc | rfl
  · exact h c hc
  · exact hj

/-- Clearing a range keeps the canonical form. -/
theorem Memory.wf_clearBelow {m : Memory} (h : m.wf = true) (n : Nat) : (m.clearBelow n).wf = true := by
  induction m with
  | nil => rfl
  | cons c m ih =>
    obtain ⟨a, e⟩ := c
    obtain ⟨he, ha, hm⟩ := (Memory.wf_cons a e m).mp h
    simp only [Memory.clearBelow, List.filter_cons] at ih ⊢
    split_ifs
    · exact (Memory.wf_cons ..).mpr ⟨he, fun c hc => ha c (List.mem_filter.mp hc).1, ih hm⟩
    · exact ih hm

/-- Clearing a range lists no new counter. -/
theorem Memory.inRange_clearBelow {m : Memory} (h : m.inRange) (n : Nat) : (m.clearBelow n).inRange :=
  fun c hc => h c (List.mem_filter.mp hc).1

/-- The cleared counters are 0 and the others as before. -/
theorem Memory.read_clearBelow (m : Memory) (n j : Nat) :
    (m.clearBelow n).read j = if j < n then 0#8 else m.read j := by
  induction m with
  | nil => simp [Memory.clearBelow, Memory.unlisted]
  | cons c m ih =>
    obtain ⟨a, e⟩ := c
    simp only [Memory.clearBelow, List.filter_cons] at ih ⊢
    split_ifs with h1 h2 <;> simp only [decide_eq_true_eq] at h1 <;> simp only [Memory.read_cons, ih] <;> grind

/-- The canonical array is canonical and lists existing counters only, whatever the pairs. -/
theorem Memory.canon_spec (l : List Host.Cell) : (Memory.canon l).wf = true ∧ (Memory.canon l).inRange := by
  have key : ∀ (l : List Host.Cell) (m : Memory), (∀ c ∈ l, c.1 < Config.nSlots) → m.wf = true ∧ m.inRange →
      (l.foldl (fun m c => Memory.write m c.1 c.2) m).wf = true ∧
        (l.foldl (fun m c => Memory.write m c.1 c.2) m).inRange := by
    intro l
    induction l with
    | nil => exact fun m _ h => h
    | cons c l ih =>
      intro m hl h
      exact ih _ (fun d hd => hl d (by simp [hd]))
        ⟨Memory.wf_write h.1 _ _, Memory.inRange_write h.2 (hl c (by simp)) _⟩
  exact key _ _ (by simp) ⟨rfl, by simp [Memory.inRange]⟩

/-- A fold of writes at existing counters keeps the canonical form and the range. -/
theorem Memory.modifyAll_spec {m : Memory} (h : m.wf = true ∧ m.inRange) (f : Byte → Byte) {ps : List Nat}
    (hps : ∀ p ∈ ps, p < Config.nSlots) : (m.modifyAll f ps).wf = true ∧ (m.modifyAll f ps).inRange := by
  induction ps generalizing m with
  | nil => exact h
  | cons p ps ih =>
    exact ih ⟨Memory.wf_write h.1 _ _, Memory.inRange_write h.2 (hps p (by simp)) _⟩ fun q hq => hps q (by simp [hq])

/-- With distinct positions each counter is changed once, from its value before; the others are as before. -/
theorem Memory.read_modifyAll {m : Memory} (h : m.wf = true) (f : Byte → Byte) {ps : List Nat} (hps : ps.Nodup)
    (j : Nat) : (m.modifyAll f ps).read j = if j ∈ ps then f (m.read j) else m.read j := by
  induction ps generalizing m with
  | nil => simp [Memory.modifyAll]
  | cons p ps ih =>
    obtain ⟨hp, hps⟩ := List.nodup_cons.mp hps
    have := ih (m := m.write p (f (m.read p))) (Memory.wf_write h _ _) hps
    simp only [Memory.modifyAll, List.foldl_cons] at this ⊢
    rw [this, Memory.read_write h]
    by_cases hj : j = p
    · subst hj; simp [hp]
    · simp [hj]

/-- Canonical arrays whose counters all agree are the same list. -/
theorem Memory.ext_of_wf {m n : Memory} (hm : m.wf = true) (hn : n.wf = true) (h : ∀ j, m.read j = n.read j) :
    m = n := by
  induction m generalizing n with
  | nil =>
    cases n with
    | nil => rfl
    | cons c n =>
      obtain ⟨a, b⟩ := c
      have := h a
      simp only [Memory.read_nil, Memory.read_cons, if_true] at this
      exact absurd this.symm ((Memory.wf_cons a b n).mp hn).1
  | cons c m ih =>
    obtain ⟨a, b⟩ := c
    obtain ⟨hb, ha, hm'⟩ := (Memory.wf_cons a b m).mp hm
    cases n with
    | nil =>
      have := h a
      simp only [Memory.read_nil, Memory.read_cons, if_true] at this
      exact absurd this hb
    | cons d n =>
      obtain ⟨a', b'⟩ := d
      obtain ⟨hb', ha', hn'⟩ := (Memory.wf_cons a' b' n).mp hn
      have haa : a = a' := by
        by_contra hne
        rcases Nat.lt_or_gt_of_ne hne with hlt | hlt
        · have := h a
          rw [Memory.read_cons, if_pos rfl, Memory.read_cons, if_neg (by omega),
            Memory.read_of_lt fun c hc => lt_trans hlt (ha' c hc)] at this
          exact hb this
        · have := h a'
          rw [Memory.read_cons, if_neg (by omega), Memory.read_cons, if_pos rfl,
            Memory.read_of_lt fun c hc => lt_trans hlt (ha c hc)] at this
          exact hb' this.symm
      subst haa
      have hbb : b = b' := by simpa [Memory.read_cons] using h a
      subst hbb
      congr 1
      refine ih hm' hn' fun j => ?_
      by_cases hj : a = j
      · subst hj; rw [Memory.read_of_lt ha, Memory.read_of_lt ha']
      · simpa [Memory.read_cons, hj] using h j

end Sys2Proof.Machine
end

