-- ==== Sys2Proof/Laws/State.lean ====
section
/-! SUPPORT. One lemma per field per update of State, each true by rfl, so that no proof unfolds a record update. -/

namespace Sys2Proof.Machine

/-! ## complete: `complete(code)` writes ERR and BUSY (R11, R191). -/

@[simp] theorem State.complete_busy (s : State) (e : ErrCode) : (s.complete e).busy = false := rfl
@[simp] theorem State.complete_result (s : State) (e : ErrCode) : (s.complete e).result = s.result := rfl
@[simp] theorem State.complete_cfgValid (s : State) (e : ErrCode) : (s.complete e).cfgValid = s.cfgValid := rfl
@[simp] theorem State.complete_hashActive (s : State) (e : ErrCode) : (s.complete e).hashActive = s.hashActive := rfl
@[simp] theorem State.complete_drop (s : State) (e : ErrCode) : (s.complete e).drop = s.drop := rfl
@[simp] theorem State.complete_err (s : State) (e : ErrCode) : (s.complete e).err = e := rfl
@[simp] theorem State.complete_key0 (s : State) (e : ErrCode) : (s.complete e).key0 = s.key0 := rfl
@[simp] theorem State.complete_key1 (s : State) (e : ErrCode) : (s.complete e).key1 = s.key1 := rfl
@[simp] theorem State.complete_data (s : State) (e : ErrCode) : (s.complete e).data = s.data := rfl
@[simp] theorem State.complete_digest (s : State) (e : ErrCode) : (s.complete e).digest = s.digest := rfl
@[simp] theorem State.complete_paramK (s : State) (e : ErrCode) : (s.complete e).paramK = s.paramK := rfl
@[simp] theorem State.complete_paramO (s : State) (e : ErrCode) : (s.complete e).paramO = s.paramO := rfl
@[simp] theorem State.complete_paramMaxc (s : State) (e : ErrCode) : (s.complete e).paramMaxc = s.paramMaxc := rfl
@[simp] theorem State.complete_cntIndex (s : State) (e : ErrCode) : (s.complete e).cntIndex = s.cntIndex := rfl
@[simp] theorem State.complete_cfgK (s : State) (e : ErrCode) : (s.complete e).cfgK = s.cfgK := rfl
@[simp] theorem State.complete_cfgO (s : State) (e : ErrCode) : (s.complete e).cfgO = s.cfgO := rfl
@[simp] theorem State.complete_cfgMaxc (s : State) (e : ErrCode) : (s.complete e).cfgMaxc = s.cfgMaxc := rfl
@[simp] theorem State.complete_itemCount (s : State) (e : ErrCode) : (s.complete e).itemCount = s.itemCount := rfl
@[simp] theorem State.complete_hlen (s : State) (e : ErrCode) : (s.complete e).hlen = s.hlen := rfl
@[simp] theorem State.complete_v (s : State) (e : ErrCode) : (s.complete e).v = s.v := rfl
@[simp] theorem State.complete_ka0 (s : State) (e : ErrCode) : (s.complete e).ka0 = s.ka0 := rfl
@[simp] theorem State.complete_ka1 (s : State) (e : ErrCode) : (s.complete e).ka1 = s.ka1 := rfl
@[simp] theorem State.complete_cnt (s : State) (e : ErrCode) : (s.complete e).cnt = s.cnt := rfl
@[simp] theorem State.complete_pend (s : State) (e : ErrCode) : (s.complete e).pend = s.pend := rfl
@[simp] theorem State.complete_inbox (s : State) (e : ErrCode) : (s.complete e).inbox = s.inbox := rfl
@[simp] theorem State.complete_rsp (s : State) (e : ErrCode) : (s.complete e).rsp = s.rsp := rfl
@[simp] theorem State.complete_latency (s : State) (e : ErrCode) : (s.complete e).latency = s.latency := rfl
@[simp] theorem State.complete_draws (s : State) (e : ErrCode) : (s.complete e).draws = s.draws := rfl

/-! ## respond: A read writes the response only (R65). -/

@[simp] theorem State.respond_busy (s : State) (w : Word) : (s.respond w).busy = s.busy := rfl
@[simp] theorem State.respond_result (s : State) (w : Word) : (s.respond w).result = s.result := rfl
@[simp] theorem State.respond_cfgValid (s : State) (w : Word) : (s.respond w).cfgValid = s.cfgValid := rfl
@[simp] theorem State.respond_hashActive (s : State) (w : Word) : (s.respond w).hashActive = s.hashActive := rfl
@[simp] theorem State.respond_drop (s : State) (w : Word) : (s.respond w).drop = s.drop := rfl
@[simp] theorem State.respond_err (s : State) (w : Word) : (s.respond w).err = s.err := rfl
@[simp] theorem State.respond_key0 (s : State) (w : Word) : (s.respond w).key0 = s.key0 := rfl
@[simp] theorem State.respond_key1 (s : State) (w : Word) : (s.respond w).key1 = s.key1 := rfl
@[simp] theorem State.respond_data (s : State) (w : Word) : (s.respond w).data = s.data := rfl
@[simp] theorem State.respond_digest (s : State) (w : Word) : (s.respond w).digest = s.digest := rfl
@[simp] theorem State.respond_paramK (s : State) (w : Word) : (s.respond w).paramK = s.paramK := rfl
@[simp] theorem State.respond_paramO (s : State) (w : Word) : (s.respond w).paramO = s.paramO := rfl
@[simp] theorem State.respond_paramMaxc (s : State) (w : Word) : (s.respond w).paramMaxc = s.paramMaxc := rfl
@[simp] theorem State.respond_cntIndex (s : State) (w : Word) : (s.respond w).cntIndex = s.cntIndex := rfl
@[simp] theorem State.respond_cfgK (s : State) (w : Word) : (s.respond w).cfgK = s.cfgK := rfl
@[simp] theorem State.respond_cfgO (s : State) (w : Word) : (s.respond w).cfgO = s.cfgO := rfl
@[simp] theorem State.respond_cfgMaxc (s : State) (w : Word) : (s.respond w).cfgMaxc = s.cfgMaxc := rfl
@[simp] theorem State.respond_itemCount (s : State) (w : Word) : (s.respond w).itemCount = s.itemCount := rfl
@[simp] theorem State.respond_hlen (s : State) (w : Word) : (s.respond w).hlen = s.hlen := rfl
@[simp] theorem State.respond_v (s : State) (w : Word) : (s.respond w).v = s.v := rfl
@[simp] theorem State.respond_ka0 (s : State) (w : Word) : (s.respond w).ka0 = s.ka0 := rfl
@[simp] theorem State.respond_ka1 (s : State) (w : Word) : (s.respond w).ka1 = s.ka1 := rfl
@[simp] theorem State.respond_cnt (s : State) (w : Word) : (s.respond w).cnt = s.cnt := rfl
@[simp] theorem State.respond_pend (s : State) (w : Word) : (s.respond w).pend = s.pend := rfl
@[simp] theorem State.respond_inbox (s : State) (w : Word) : (s.respond w).inbox = s.inbox := rfl
@[simp] theorem State.respond_rsp (s : State) (w : Word) : (s.respond w).rsp = some w := rfl
@[simp] theorem State.respond_latency (s : State) (w : Word) : (s.respond w).latency = s.latency := rfl
@[simp] theorem State.respond_draws (s : State) (w : Word) : (s.respond w).draws = s.draws := rfl

/-! ## acknowledge: A write returns nothing. -/

@[simp] theorem State.acknowledge_busy (s : State) : (s.acknowledge).busy = s.busy := rfl
@[simp] theorem State.acknowledge_result (s : State) : (s.acknowledge).result = s.result := rfl
@[simp] theorem State.acknowledge_cfgValid (s : State) : (s.acknowledge).cfgValid = s.cfgValid := rfl
@[simp] theorem State.acknowledge_hashActive (s : State) : (s.acknowledge).hashActive = s.hashActive := rfl
@[simp] theorem State.acknowledge_drop (s : State) : (s.acknowledge).drop = s.drop := rfl
@[simp] theorem State.acknowledge_err (s : State) : (s.acknowledge).err = s.err := rfl
@[simp] theorem State.acknowledge_key0 (s : State) : (s.acknowledge).key0 = s.key0 := rfl
@[simp] theorem State.acknowledge_key1 (s : State) : (s.acknowledge).key1 = s.key1 := rfl
@[simp] theorem State.acknowledge_data (s : State) : (s.acknowledge).data = s.data := rfl
@[simp] theorem State.acknowledge_digest (s : State) : (s.acknowledge).digest = s.digest := rfl
@[simp] theorem State.acknowledge_paramK (s : State) : (s.acknowledge).paramK = s.paramK := rfl
@[simp] theorem State.acknowledge_paramO (s : State) : (s.acknowledge).paramO = s.paramO := rfl
@[simp] theorem State.acknowledge_paramMaxc (s : State) : (s.acknowledge).paramMaxc = s.paramMaxc := rfl
@[simp] theorem State.acknowledge_cntIndex (s : State) : (s.acknowledge).cntIndex = s.cntIndex := rfl
@[simp] theorem State.acknowledge_cfgK (s : State) : (s.acknowledge).cfgK = s.cfgK := rfl
@[simp] theorem State.acknowledge_cfgO (s : State) : (s.acknowledge).cfgO = s.cfgO := rfl
@[simp] theorem State.acknowledge_cfgMaxc (s : State) : (s.acknowledge).cfgMaxc = s.cfgMaxc := rfl
@[simp] theorem State.acknowledge_itemCount (s : State) : (s.acknowledge).itemCount = s.itemCount := rfl
@[simp] theorem State.acknowledge_hlen (s : State) : (s.acknowledge).hlen = s.hlen := rfl
@[simp] theorem State.acknowledge_v (s : State) : (s.acknowledge).v = s.v := rfl
@[simp] theorem State.acknowledge_ka0 (s : State) : (s.acknowledge).ka0 = s.ka0 := rfl
@[simp] theorem State.acknowledge_ka1 (s : State) : (s.acknowledge).ka1 = s.ka1 := rfl
@[simp] theorem State.acknowledge_cnt (s : State) : (s.acknowledge).cnt = s.cnt := rfl
@[simp] theorem State.acknowledge_pend (s : State) : (s.acknowledge).pend = s.pend := rfl
@[simp] theorem State.acknowledge_inbox (s : State) : (s.acknowledge).inbox = s.inbox := rfl
@[simp] theorem State.acknowledge_rsp (s : State) : (s.acknowledge).rsp = none := rfl
@[simp] theorem State.acknowledge_latency (s : State) : (s.acknowledge).latency = s.latency := rfl
@[simp] theorem State.acknowledge_draws (s : State) : (s.acknowledge).draws = s.draws := rfl

/-! ## respondFree: A free read draws one value. -/

@[simp] theorem State.respondFree_busy (s : State) : (s.respondFree).busy = s.busy := rfl
@[simp] theorem State.respondFree_result (s : State) : (s.respondFree).result = s.result := rfl
@[simp] theorem State.respondFree_cfgValid (s : State) : (s.respondFree).cfgValid = s.cfgValid := rfl
@[simp] theorem State.respondFree_hashActive (s : State) : (s.respondFree).hashActive = s.hashActive := rfl
@[simp] theorem State.respondFree_drop (s : State) : (s.respondFree).drop = s.drop := rfl
@[simp] theorem State.respondFree_err (s : State) : (s.respondFree).err = s.err := rfl
@[simp] theorem State.respondFree_key0 (s : State) : (s.respondFree).key0 = s.key0 := rfl
@[simp] theorem State.respondFree_key1 (s : State) : (s.respondFree).key1 = s.key1 := rfl
@[simp] theorem State.respondFree_data (s : State) : (s.respondFree).data = s.data := rfl
@[simp] theorem State.respondFree_digest (s : State) : (s.respondFree).digest = s.digest := rfl
@[simp] theorem State.respondFree_paramK (s : State) : (s.respondFree).paramK = s.paramK := rfl
@[simp] theorem State.respondFree_paramO (s : State) : (s.respondFree).paramO = s.paramO := rfl
@[simp] theorem State.respondFree_paramMaxc (s : State) : (s.respondFree).paramMaxc = s.paramMaxc := rfl
@[simp] theorem State.respondFree_cntIndex (s : State) : (s.respondFree).cntIndex = s.cntIndex := rfl
@[simp] theorem State.respondFree_cfgK (s : State) : (s.respondFree).cfgK = s.cfgK := rfl
@[simp] theorem State.respondFree_cfgO (s : State) : (s.respondFree).cfgO = s.cfgO := rfl
@[simp] theorem State.respondFree_cfgMaxc (s : State) : (s.respondFree).cfgMaxc = s.cfgMaxc := rfl
@[simp] theorem State.respondFree_itemCount (s : State) : (s.respondFree).itemCount = s.itemCount := rfl
@[simp] theorem State.respondFree_hlen (s : State) : (s.respondFree).hlen = s.hlen := rfl
@[simp] theorem State.respondFree_v (s : State) : (s.respondFree).v = s.v := rfl
@[simp] theorem State.respondFree_ka0 (s : State) : (s.respondFree).ka0 = s.ka0 := rfl
@[simp] theorem State.respondFree_ka1 (s : State) : (s.respondFree).ka1 = s.ka1 := rfl
@[simp] theorem State.respondFree_cnt (s : State) : (s.respondFree).cnt = s.cnt := rfl
@[simp] theorem State.respondFree_pend (s : State) : (s.respondFree).pend = s.pend := rfl
@[simp] theorem State.respondFree_inbox (s : State) : (s.respondFree).inbox = s.inbox := rfl
@[simp] theorem State.respondFree_rsp (s : State) : (s.respondFree).rsp = some (Config.freeWord s.draws) := rfl
@[simp] theorem State.respondFree_latency (s : State) : (s.respondFree).latency = s.latency := rfl
@[simp] theorem State.respondFree_draws (s : State) : (s.respondFree).draws = s.draws + 1 := rfl

/-! ## issue: A command issue writes PEND and BUSY (R25). -/

@[simp] theorem State.issue_busy (s : State) (w : Word) : (s.issue w).busy = true := rfl
@[simp] theorem State.issue_result (s : State) (w : Word) : (s.issue w).result = s.result := rfl
@[simp] theorem State.issue_cfgValid (s : State) (w : Word) : (s.issue w).cfgValid = s.cfgValid := rfl
@[simp] theorem State.issue_hashActive (s : State) (w : Word) : (s.issue w).hashActive = s.hashActive := rfl
@[simp] theorem State.issue_drop (s : State) (w : Word) : (s.issue w).drop = s.drop := rfl
@[simp] theorem State.issue_err (s : State) (w : Word) : (s.issue w).err = s.err := rfl
@[simp] theorem State.issue_key0 (s : State) (w : Word) : (s.issue w).key0 = s.key0 := rfl
@[simp] theorem State.issue_key1 (s : State) (w : Word) : (s.issue w).key1 = s.key1 := rfl
@[simp] theorem State.issue_data (s : State) (w : Word) : (s.issue w).data = s.data := rfl
@[simp] theorem State.issue_digest (s : State) (w : Word) : (s.issue w).digest = s.digest := rfl
@[simp] theorem State.issue_paramK (s : State) (w : Word) : (s.issue w).paramK = s.paramK := rfl
@[simp] theorem State.issue_paramO (s : State) (w : Word) : (s.issue w).paramO = s.paramO := rfl
@[simp] theorem State.issue_paramMaxc (s : State) (w : Word) : (s.issue w).paramMaxc = s.paramMaxc := rfl
@[simp] theorem State.issue_cntIndex (s : State) (w : Word) : (s.issue w).cntIndex = s.cntIndex := rfl
@[simp] theorem State.issue_cfgK (s : State) (w : Word) : (s.issue w).cfgK = s.cfgK := rfl
@[simp] theorem State.issue_cfgO (s : State) (w : Word) : (s.issue w).cfgO = s.cfgO := rfl
@[simp] theorem State.issue_cfgMaxc (s : State) (w : Word) : (s.issue w).cfgMaxc = s.cfgMaxc := rfl
@[simp] theorem State.issue_itemCount (s : State) (w : Word) : (s.issue w).itemCount = s.itemCount := rfl
@[simp] theorem State.issue_hlen (s : State) (w : Word) : (s.issue w).hlen = s.hlen := rfl
@[simp] theorem State.issue_v (s : State) (w : Word) : (s.issue w).v = s.v := rfl
@[simp] theorem State.issue_ka0 (s : State) (w : Word) : (s.issue w).ka0 = s.ka0 := rfl
@[simp] theorem State.issue_ka1 (s : State) (w : Word) : (s.issue w).ka1 = s.ka1 := rfl
@[simp] theorem State.issue_cnt (s : State) (w : Word) : (s.issue w).cnt = s.cnt := rfl
@[simp] theorem State.issue_pend (s : State) (w : Word) : (s.issue w).pend = w := rfl
@[simp] theorem State.issue_inbox (s : State) (w : Word) : (s.issue w).inbox = s.inbox := rfl
@[simp] theorem State.issue_rsp (s : State) (w : Word) : (s.issue w).rsp = s.rsp := rfl
@[simp] theorem State.issue_latency (s : State) (w : Word) : (s.issue w).latency = Config.latency s.draws := rfl
@[simp] theorem State.issue_draws (s : State) (w : Word) : (s.issue w).draws = s.draws + 1 := rfl

/-! ## writeStatus: A STATUS write can clear DROP only (R26). -/

@[simp] theorem State.writeStatus_busy (s : State) (w : Word) : (s.writeStatus w).busy = s.busy := rfl
@[simp] theorem State.writeStatus_result (s : State) (w : Word) : (s.writeStatus w).result = s.result := rfl
@[simp] theorem State.writeStatus_cfgValid (s : State) (w : Word) : (s.writeStatus w).cfgValid = s.cfgValid := rfl
@[simp] theorem State.writeStatus_hashActive (s : State) (w : Word) :
    (s.writeStatus w).hashActive = s.hashActive := rfl
@[simp] theorem State.writeStatus_drop (s : State) (w : Word) :
    (s.writeStatus w).drop = (s.drop && !w.getLsbD 4) := rfl
@[simp] theorem State.writeStatus_err (s : State) (w : Word) : (s.writeStatus w).err = s.err := rfl
@[simp] theorem State.writeStatus_key0 (s : State) (w : Word) : (s.writeStatus w).key0 = s.key0 := rfl
@[simp] theorem State.writeStatus_key1 (s : State) (w : Word) : (s.writeStatus w).key1 = s.key1 := rfl
@[simp] theorem State.writeStatus_data (s : State) (w : Word) : (s.writeStatus w).data = s.data := rfl
@[simp] theorem State.writeStatus_digest (s : State) (w : Word) : (s.writeStatus w).digest = s.digest := rfl
@[simp] theorem State.writeStatus_paramK (s : State) (w : Word) : (s.writeStatus w).paramK = s.paramK := rfl
@[simp] theorem State.writeStatus_paramO (s : State) (w : Word) : (s.writeStatus w).paramO = s.paramO := rfl
@[simp] theorem State.writeStatus_paramMaxc (s : State) (w : Word) : (s.writeStatus w).paramMaxc = s.paramMaxc := rfl
@[simp] theorem State.writeStatus_cntIndex (s : State) (w : Word) : (s.writeStatus w).cntIndex = s.cntIndex := rfl
@[simp] theorem State.writeStatus_cfgK (s : State) (w : Word) : (s.writeStatus w).cfgK = s.cfgK := rfl
@[simp] theorem State.writeStatus_cfgO (s : State) (w : Word) : (s.writeStatus w).cfgO = s.cfgO := rfl
@[simp] theorem State.writeStatus_cfgMaxc (s : State) (w : Word) : (s.writeStatus w).cfgMaxc = s.cfgMaxc := rfl
@[simp] theorem State.writeStatus_itemCount (s : State) (w : Word) : (s.writeStatus w).itemCount = s.itemCount := rfl
@[simp] theorem State.writeStatus_hlen (s : State) (w : Word) : (s.writeStatus w).hlen = s.hlen := rfl
@[simp] theorem State.writeStatus_v (s : State) (w : Word) : (s.writeStatus w).v = s.v := rfl
@[simp] theorem State.writeStatus_ka0 (s : State) (w : Word) : (s.writeStatus w).ka0 = s.ka0 := rfl
@[simp] theorem State.writeStatus_ka1 (s : State) (w : Word) : (s.writeStatus w).ka1 = s.ka1 := rfl
@[simp] theorem State.writeStatus_cnt (s : State) (w : Word) : (s.writeStatus w).cnt = s.cnt := rfl
@[simp] theorem State.writeStatus_pend (s : State) (w : Word) : (s.writeStatus w).pend = s.pend := rfl
@[simp] theorem State.writeStatus_inbox (s : State) (w : Word) : (s.writeStatus w).inbox = s.inbox := rfl
@[simp] theorem State.writeStatus_rsp (s : State) (w : Word) : (s.writeStatus w).rsp = s.rsp := rfl
@[simp] theorem State.writeStatus_latency (s : State) (w : Word) : (s.writeStatus w).latency = s.latency := rfl
@[simp] theorem State.writeStatus_draws (s : State) (w : Word) : (s.writeStatus w).draws = s.draws := rfl

/-! ## take: The host's list is advanced. -/

@[simp] theorem State.take_busy (s : State) (rest : List HostEvent) : (s.take rest).busy = s.busy := rfl
@[simp] theorem State.take_result (s : State) (rest : List HostEvent) : (s.take rest).result = s.result := rfl
@[simp] theorem State.take_cfgValid (s : State) (rest : List HostEvent) : (s.take rest).cfgValid = s.cfgValid := rfl
@[simp] theorem State.take_hashActive (s : State) (rest : List HostEvent) :
    (s.take rest).hashActive = s.hashActive := rfl
@[simp] theorem State.take_drop (s : State) (rest : List HostEvent) : (s.take rest).drop = s.drop := rfl
@[simp] theorem State.take_err (s : State) (rest : List HostEvent) : (s.take rest).err = s.err := rfl
@[simp] theorem State.take_key0 (s : State) (rest : List HostEvent) : (s.take rest).key0 = s.key0 := rfl
@[simp] theorem State.take_key1 (s : State) (rest : List HostEvent) : (s.take rest).key1 = s.key1 := rfl
@[simp] theorem State.take_data (s : State) (rest : List HostEvent) : (s.take rest).data = s.data := rfl
@[simp] theorem State.take_digest (s : State) (rest : List HostEvent) : (s.take rest).digest = s.digest := rfl
@[simp] theorem State.take_paramK (s : State) (rest : List HostEvent) : (s.take rest).paramK = s.paramK := rfl
@[simp] theorem State.take_paramO (s : State) (rest : List HostEvent) : (s.take rest).paramO = s.paramO := rfl
@[simp] theorem State.take_paramMaxc (s : State) (rest : List HostEvent) :
    (s.take rest).paramMaxc = s.paramMaxc := rfl
@[simp] theorem State.take_cntIndex (s : State) (rest : List HostEvent) : (s.take rest).cntIndex = s.cntIndex := rfl
@[simp] theorem State.take_cfgK (s : State) (rest : List HostEvent) : (s.take rest).cfgK = s.cfgK := rfl
@[simp] theorem State.take_cfgO (s : State) (rest : List HostEvent) : (s.take rest).cfgO = s.cfgO := rfl
@[simp] theorem State.take_cfgMaxc (s : State) (rest : List HostEvent) : (s.take rest).cfgMaxc = s.cfgMaxc := rfl
@[simp] theorem State.take_itemCount (s : State) (rest : List HostEvent) :
    (s.take rest).itemCount = s.itemCount := rfl
@[simp] theorem State.take_hlen (s : State) (rest : List HostEvent) : (s.take rest).hlen = s.hlen := rfl
@[simp] theorem State.take_v (s : State) (rest : List HostEvent) : (s.take rest).v = s.v := rfl
@[simp] theorem State.take_ka0 (s : State) (rest : List HostEvent) : (s.take rest).ka0 = s.ka0 := rfl
@[simp] theorem State.take_ka1 (s : State) (rest : List HostEvent) : (s.take rest).ka1 = s.ka1 := rfl
@[simp] theorem State.take_cnt (s : State) (rest : List HostEvent) : (s.take rest).cnt = s.cnt := rfl
@[simp] theorem State.take_pend (s : State) (rest : List HostEvent) : (s.take rest).pend = s.pend := rfl
@[simp] theorem State.take_inbox (s : State) (rest : List HostEvent) : (s.take rest).inbox = rest := rfl
@[simp] theorem State.take_rsp (s : State) (rest : List HostEvent) : (s.take rest).rsp = s.rsp := rfl
@[simp] theorem State.take_latency (s : State) (rest : List HostEvent) : (s.take rest).latency = s.latency - 1 := rfl
@[simp] theorem State.take_draws (s : State) (rest : List HostEvent) : (s.take rest).draws = s.draws := rfl

/-! ## pendNow: The word is pending and the engine is next. -/

@[simp] theorem State.pendNow_busy (s : State) (w : Word) : (s.pendNow w).busy = true := rfl
@[simp] theorem State.pendNow_result (s : State) (w : Word) : (s.pendNow w).result = s.result := rfl
@[simp] theorem State.pendNow_cfgValid (s : State) (w : Word) : (s.pendNow w).cfgValid = s.cfgValid := rfl
@[simp] theorem State.pendNow_hashActive (s : State) (w : Word) : (s.pendNow w).hashActive = s.hashActive := rfl
@[simp] theorem State.pendNow_drop (s : State) (w : Word) : (s.pendNow w).drop = s.drop := rfl
@[simp] theorem State.pendNow_err (s : State) (w : Word) : (s.pendNow w).err = s.err := rfl
@[simp] theorem State.pendNow_key0 (s : State) (w : Word) : (s.pendNow w).key0 = s.key0 := rfl
@[simp] theorem State.pendNow_key1 (s : State) (w : Word) : (s.pendNow w).key1 = s.key1 := rfl
@[simp] theorem State.pendNow_data (s : State) (w : Word) : (s.pendNow w).data = s.data := rfl
@[simp] theorem State.pendNow_digest (s : State) (w : Word) : (s.pendNow w).digest = s.digest := rfl
@[simp] theorem State.pendNow_paramK (s : State) (w : Word) : (s.pendNow w).paramK = s.paramK := rfl
@[simp] theorem State.pendNow_paramO (s : State) (w : Word) : (s.pendNow w).paramO = s.paramO := rfl
@[simp] theorem State.pendNow_paramMaxc (s : State) (w : Word) : (s.pendNow w).paramMaxc = s.paramMaxc := rfl
@[simp] theorem State.pendNow_cntIndex (s : State) (w : Word) : (s.pendNow w).cntIndex = s.cntIndex := rfl
@[simp] theorem State.pendNow_cfgK (s : State) (w : Word) : (s.pendNow w).cfgK = s.cfgK := rfl
@[simp] theorem State.pendNow_cfgO (s : State) (w : Word) : (s.pendNow w).cfgO = s.cfgO := rfl
@[simp] theorem State.pendNow_cfgMaxc (s : State) (w : Word) : (s.pendNow w).cfgMaxc = s.cfgMaxc := rfl
@[simp] theorem State.pendNow_itemCount (s : State) (w : Word) : (s.pendNow w).itemCount = s.itemCount := rfl
@[simp] theorem State.pendNow_hlen (s : State) (w : Word) : (s.pendNow w).hlen = s.hlen := rfl
@[simp] theorem State.pendNow_v (s : State) (w : Word) : (s.pendNow w).v = s.v := rfl
@[simp] theorem State.pendNow_ka0 (s : State) (w : Word) : (s.pendNow w).ka0 = s.ka0 := rfl
@[simp] theorem State.pendNow_ka1 (s : State) (w : Word) : (s.pendNow w).ka1 = s.ka1 := rfl
@[simp] theorem State.pendNow_cnt (s : State) (w : Word) : (s.pendNow w).cnt = s.cnt := rfl
@[simp] theorem State.pendNow_pend (s : State) (w : Word) : (s.pendNow w).pend = w := rfl
@[simp] theorem State.pendNow_inbox (s : State) (w : Word) : (s.pendNow w).inbox = s.inbox := rfl
@[simp] theorem State.pendNow_rsp (s : State) (w : Word) : (s.pendNow w).rsp = s.rsp := rfl
@[simp] theorem State.pendNow_latency (s : State) (w : Word) : (s.pendNow w).latency = 0 := rfl
@[simp] theorem State.pendNow_draws (s : State) (w : Word) : (s.pendNow w).draws = s.draws := rfl

/-! ## absorbBlock: HASH_BLOCK's writes (R120). -/

@[simp] theorem State.absorbBlock_busy (s : State) : (s.absorbBlock).busy = s.busy := rfl
@[simp] theorem State.absorbBlock_result (s : State) : (s.absorbBlock).result = s.result := rfl
@[simp] theorem State.absorbBlock_cfgValid (s : State) : (s.absorbBlock).cfgValid = s.cfgValid := rfl
@[simp] theorem State.absorbBlock_hashActive (s : State) : (s.absorbBlock).hashActive = s.hashActive := rfl
@[simp] theorem State.absorbBlock_drop (s : State) : (s.absorbBlock).drop = s.drop := rfl
@[simp] theorem State.absorbBlock_err (s : State) : (s.absorbBlock).err = s.err := rfl
@[simp] theorem State.absorbBlock_key0 (s : State) : (s.absorbBlock).key0 = s.key0 := rfl
@[simp] theorem State.absorbBlock_key1 (s : State) : (s.absorbBlock).key1 = s.key1 := rfl
@[simp] theorem State.absorbBlock_data (s : State) : (s.absorbBlock).data = s.data := rfl
@[simp] theorem State.absorbBlock_digest (s : State) : (s.absorbBlock).digest = s.digest := rfl
@[simp] theorem State.absorbBlock_paramK (s : State) : (s.absorbBlock).paramK = s.paramK := rfl
@[simp] theorem State.absorbBlock_paramO (s : State) : (s.absorbBlock).paramO = s.paramO := rfl
@[simp] theorem State.absorbBlock_paramMaxc (s : State) : (s.absorbBlock).paramMaxc = s.paramMaxc := rfl
@[simp] theorem State.absorbBlock_cntIndex (s : State) : (s.absorbBlock).cntIndex = s.cntIndex := rfl
@[simp] theorem State.absorbBlock_cfgK (s : State) : (s.absorbBlock).cfgK = s.cfgK := rfl
@[simp] theorem State.absorbBlock_cfgO (s : State) : (s.absorbBlock).cfgO = s.cfgO := rfl
@[simp] theorem State.absorbBlock_cfgMaxc (s : State) : (s.absorbBlock).cfgMaxc = s.cfgMaxc := rfl
@[simp] theorem State.absorbBlock_itemCount (s : State) : (s.absorbBlock).itemCount = s.itemCount := rfl
@[simp] theorem State.absorbBlock_hlen (s : State) : (s.absorbBlock).hlen = s.hlen + 8#64 := rfl
@[simp] theorem State.absorbBlock_v (s : State) : (s.absorbBlock).v = sipCompress s.v s.data := rfl
@[simp] theorem State.absorbBlock_ka0 (s : State) : (s.absorbBlock).ka0 = s.ka0 := rfl
@[simp] theorem State.absorbBlock_ka1 (s : State) : (s.absorbBlock).ka1 = s.ka1 := rfl
@[simp] theorem State.absorbBlock_cnt (s : State) : (s.absorbBlock).cnt = s.cnt := rfl
@[simp] theorem State.absorbBlock_pend (s : State) : (s.absorbBlock).pend = s.pend := rfl
@[simp] theorem State.absorbBlock_inbox (s : State) : (s.absorbBlock).inbox = s.inbox := rfl
@[simp] theorem State.absorbBlock_rsp (s : State) : (s.absorbBlock).rsp = s.rsp := rfl
@[simp] theorem State.absorbBlock_latency (s : State) : (s.absorbBlock).latency = s.latency := rfl
@[simp] theorem State.absorbBlock_draws (s : State) : (s.absorbBlock).draws = s.draws := rfl

/-! ## finalizeHash: HASH_FINAL's writes (R121). -/

@[simp] theorem State.finalizeHash_busy (s : State) (t : Nat) : (s.finalizeHash t).busy = s.busy := rfl
@[simp] theorem State.finalizeHash_result (s : State) (t : Nat) : (s.finalizeHash t).result = s.result := rfl
@[simp] theorem State.finalizeHash_cfgValid (s : State) (t : Nat) : (s.finalizeHash t).cfgValid = s.cfgValid := rfl
@[simp] theorem State.finalizeHash_hashActive (s : State) (t : Nat) : (s.finalizeHash t).hashActive = false := rfl
@[simp] theorem State.finalizeHash_drop (s : State) (t : Nat) : (s.finalizeHash t).drop = s.drop := rfl
@[simp] theorem State.finalizeHash_err (s : State) (t : Nat) : (s.finalizeHash t).err = s.err := rfl
@[simp] theorem State.finalizeHash_key0 (s : State) (t : Nat) : (s.finalizeHash t).key0 = s.key0 := rfl
@[simp] theorem State.finalizeHash_key1 (s : State) (t : Nat) : (s.finalizeHash t).key1 = s.key1 := rfl
@[simp] theorem State.finalizeHash_data (s : State) (t : Nat) : (s.finalizeHash t).data = s.data := rfl
@[simp] theorem State.finalizeHash_digest (s : State) (t : Nat) :
    (s.finalizeHash t).digest = sipDigest (s.finalizeHash t).v := rfl
@[simp] theorem State.finalizeHash_paramK (s : State) (t : Nat) : (s.finalizeHash t).paramK = s.paramK := rfl
@[simp] theorem State.finalizeHash_paramO (s : State) (t : Nat) : (s.finalizeHash t).paramO = s.paramO := rfl
@[simp] theorem State.finalizeHash_paramMaxc (s : State) (t : Nat) : (s.finalizeHash t).paramMaxc = s.paramMaxc := rfl
@[simp] theorem State.finalizeHash_cntIndex (s : State) (t : Nat) : (s.finalizeHash t).cntIndex = s.cntIndex := rfl
@[simp] theorem State.finalizeHash_cfgK (s : State) (t : Nat) : (s.finalizeHash t).cfgK = s.cfgK := rfl
@[simp] theorem State.finalizeHash_cfgO (s : State) (t : Nat) : (s.finalizeHash t).cfgO = s.cfgO := rfl
@[simp] theorem State.finalizeHash_cfgMaxc (s : State) (t : Nat) : (s.finalizeHash t).cfgMaxc = s.cfgMaxc := rfl
@[simp] theorem State.finalizeHash_itemCount (s : State) (t : Nat) : (s.finalizeHash t).itemCount = s.itemCount := rfl
@[simp] theorem State.finalizeHash_hlen (s : State) (t : Nat) :
    (s.finalizeHash t).hlen = s.hlen + BitVec.ofNat 64 t := rfl
@[simp] theorem State.finalizeHash_v (s : State) (t : Nat) :
    (s.finalizeHash t).v = sipFinalState (sipCompress s.v (padBlock (s.hlen + BitVec.ofNat 64 t) (tailOf s.data t))) := rfl
@[simp] theorem State.finalizeHash_ka0 (s : State) (t : Nat) : (s.finalizeHash t).ka0 = s.ka0 := rfl
@[simp] theorem State.finalizeHash_ka1 (s : State) (t : Nat) : (s.finalizeHash t).ka1 = s.ka1 := rfl
@[simp] theorem State.finalizeHash_cnt (s : State) (t : Nat) : (s.finalizeHash t).cnt = s.cnt := rfl
@[simp] theorem State.finalizeHash_pend (s : State) (t : Nat) : (s.finalizeHash t).pend = s.pend := rfl
@[simp] theorem State.finalizeHash_inbox (s : State) (t : Nat) : (s.finalizeHash t).inbox = s.inbox := rfl
@[simp] theorem State.finalizeHash_rsp (s : State) (t : Nat) : (s.finalizeHash t).rsp = s.rsp := rfl
@[simp] theorem State.finalizeHash_latency (s : State) (t : Nat) : (s.finalizeHash t).latency = s.latency := rfl
@[simp] theorem State.finalizeHash_draws (s : State) (t : Nat) : (s.finalizeHash t).draws = s.draws := rfl

/-! ## configure: CONFIG's writes (R143). -/

@[simp] theorem State.configure_busy (s : State) : (s.configure).busy = s.busy := rfl
@[simp] theorem State.configure_result (s : State) : (s.configure).result = s.result := rfl
@[simp] theorem State.configure_cfgValid (s : State) : (s.configure).cfgValid = true := rfl
@[simp] theorem State.configure_hashActive (s : State) : (s.configure).hashActive = false := rfl
@[simp] theorem State.configure_drop (s : State) : (s.configure).drop = s.drop := rfl
@[simp] theorem State.configure_err (s : State) : (s.configure).err = s.err := rfl
@[simp] theorem State.configure_key0 (s : State) : (s.configure).key0 = s.key0 := rfl
@[simp] theorem State.configure_key1 (s : State) : (s.configure).key1 = s.key1 := rfl
@[simp] theorem State.configure_data (s : State) : (s.configure).data = s.data := rfl
@[simp] theorem State.configure_digest (s : State) : (s.configure).digest = s.digest := rfl
@[simp] theorem State.configure_paramK (s : State) : (s.configure).paramK = s.paramK := rfl
@[simp] theorem State.configure_paramO (s : State) : (s.configure).paramO = s.paramO := rfl
@[simp] theorem State.configure_paramMaxc (s : State) : (s.configure).paramMaxc = s.paramMaxc := rfl
@[simp] theorem State.configure_cntIndex (s : State) : (s.configure).cntIndex = s.cntIndex := rfl
@[simp] theorem State.configure_cfgK (s : State) : (s.configure).cfgK = s.paramK := rfl
@[simp] theorem State.configure_cfgO (s : State) : (s.configure).cfgO = s.paramO := rfl
@[simp] theorem State.configure_cfgMaxc (s : State) : (s.configure).cfgMaxc = s.paramMaxc := rfl
@[simp] theorem State.configure_itemCount (s : State) : (s.configure).itemCount = 0#64 := rfl
@[simp] theorem State.configure_hlen (s : State) : (s.configure).hlen = 0#64 := rfl
@[simp] theorem State.configure_v (s : State) : (s.configure).v = s.v := rfl
@[simp] theorem State.configure_ka0 (s : State) : (s.configure).ka0 = s.key0 := rfl
@[simp] theorem State.configure_ka1 (s : State) : (s.configure).ka1 = s.key1 := rfl
@[simp] theorem State.configure_cnt (s : State) :
    (s.configure).cnt = s.cnt.clearBelow (s.paramK.toNat * s.paramO.toNat) := rfl
@[simp] theorem State.configure_pend (s : State) : (s.configure).pend = s.pend := rfl
@[simp] theorem State.configure_inbox (s : State) : (s.configure).inbox = s.inbox := rfl
@[simp] theorem State.configure_rsp (s : State) : (s.configure).rsp = s.rsp := rfl
@[simp] theorem State.configure_latency (s : State) : (s.configure).latency = s.latency := rfl
@[simp] theorem State.configure_draws (s : State) : (s.configure).draws = s.draws := rfl

/-! ## store: an operand register is written and nothing else (R23) -/

@[simp] theorem State.store_busy (s : State) (r : Reg) (w : Word) : (s.store r w).busy = s.busy := by
  cases r <;> rfl
@[simp] theorem State.store_result (s : State) (r : Reg) (w : Word) : (s.store r w).result = s.result := by
  cases r <;> rfl
@[simp] theorem State.store_cfgValid (s : State) (r : Reg) (w : Word) : (s.store r w).cfgValid = s.cfgValid := by
  cases r <;> rfl
@[simp] theorem State.store_hashActive (s : State) (r : Reg) (w : Word) : (s.store r w).hashActive = s.hashActive := by
  cases r <;> rfl
@[simp] theorem State.store_drop (s : State) (r : Reg) (w : Word) : (s.store r w).drop = s.drop := by
  cases r <;> rfl
@[simp] theorem State.store_err (s : State) (r : Reg) (w : Word) : (s.store r w).err = s.err := by
  cases r <;> rfl
@[simp] theorem State.store_key0 (s : State) (r : Reg) (w : Word) :
    (s.store r w).key0 = if r = .key0 then w else s.key0 := by cases r <;> rfl
@[simp] theorem State.store_key1 (s : State) (r : Reg) (w : Word) :
    (s.store r w).key1 = if r = .key1 then w else s.key1 := by cases r <;> rfl
@[simp] theorem State.store_data (s : State) (r : Reg) (w : Word) :
    (s.store r w).data = if r = .data then w else s.data := by cases r <;> rfl
@[simp] theorem State.store_digest (s : State) (r : Reg) (w : Word) :
    (s.store r w).digest = if r = .digest then w else s.digest := by cases r <;> rfl
@[simp] theorem State.store_paramK (s : State) (r : Reg) (w : Word) :
    (s.store r w).paramK = if r = .paramK then w else s.paramK := by cases r <;> rfl
@[simp] theorem State.store_paramO (s : State) (r : Reg) (w : Word) :
    (s.store r w).paramO = if r = .paramO then w else s.paramO := by cases r <;> rfl
@[simp] theorem State.store_paramMaxc (s : State) (r : Reg) (w : Word) :
    (s.store r w).paramMaxc = if r = .paramMaxc then w else s.paramMaxc := by cases r <;> rfl
@[simp] theorem State.store_cntIndex (s : State) (r : Reg) (w : Word) :
    (s.store r w).cntIndex = if r = .cntIndex then w else s.cntIndex := by cases r <;> rfl
@[simp] theorem State.store_cfgK (s : State) (r : Reg) (w : Word) : (s.store r w).cfgK = s.cfgK := by
  cases r <;> rfl
@[simp] theorem State.store_cfgO (s : State) (r : Reg) (w : Word) : (s.store r w).cfgO = s.cfgO := by
  cases r <;> rfl
@[simp] theorem State.store_cfgMaxc (s : State) (r : Reg) (w : Word) : (s.store r w).cfgMaxc = s.cfgMaxc := by
  cases r <;> rfl
@[simp] theorem State.store_itemCount (s : State) (r : Reg) (w : Word) : (s.store r w).itemCount = s.itemCount := by
  cases r <;> rfl
@[simp] theorem State.store_hlen (s : State) (r : Reg) (w : Word) : (s.store r w).hlen = s.hlen := by
  cases r <;> rfl
@[simp] theorem State.store_v (s : State) (r : Reg) (w : Word) : (s.store r w).v = s.v := by
  cases r <;> rfl
@[simp] theorem State.store_ka0 (s : State) (r : Reg) (w : Word) : (s.store r w).ka0 = s.ka0 := by
  cases r <;> rfl
@[simp] theorem State.store_ka1 (s : State) (r : Reg) (w : Word) : (s.store r w).ka1 = s.ka1 := by
  cases r <;> rfl
@[simp] theorem State.store_cnt (s : State) (r : Reg) (w : Word) : (s.store r w).cnt = s.cnt := by
  cases r <;> rfl
@[simp] theorem State.store_pend (s : State) (r : Reg) (w : Word) : (s.store r w).pend = s.pend := by
  cases r <;> rfl
@[simp] theorem State.store_inbox (s : State) (r : Reg) (w : Word) : (s.store r w).inbox = s.inbox := by
  cases r <;> rfl
@[simp] theorem State.store_rsp (s : State) (r : Reg) (w : Word) : (s.store r w).rsp = s.rsp := by
  cases r <;> rfl
@[simp] theorem State.store_latency (s : State) (r : Reg) (w : Word) : (s.store r w).latency = s.latency := by
  cases r <;> rfl
@[simp] theorem State.store_draws (s : State) (r : Reg) (w : Word) : (s.store r w).draws = s.draws := by
  cases r <;> rfl

end Sys2Proof.Machine
end

