-- ==== Sys2Proof/Laws/Commands.lean ====
section
/-! SUPPORT. What the shared operations of the commands and each command can do, said once: proofs cite these instead of unfolding
a meaning. -/

namespace Sys2Proof.Machine

/-! ## The parameters -/

theorem Config.nSlots_pos : 1 ≤ Config.nSlots := by simp [Config.nSlots]

theorem Config.nSlots_le : Config.nSlots ≤ 2 ^ 32 := by simp [Config.nSlots]

theorem Config.kMax_pos : 1 ≤ Config.kMax := by simp [Config.kMax, Config.nSlots_pos]

theorem Config.kMax_le : Config.kMax ≤ Config.nSlots := by simp [Config.kMax]

/-- `cfg_ok` as a conjunction of R142's bounds. -/
theorem configOkFor_iff {n m : Nat} {k o maxc : Word} :
    configOkFor n m k o maxc = true ↔
      (1 ≤ k.toNat ∧ k.toNat ≤ m) ∧ 1 ≤ o.toNat ∧ k.toNat * o.toNat ≤ n ∧ 1 ≤ maxc.toNat ∧ maxc.toNat ≤ 255 := by
  simp only [configOkFor, Bool.and_eq_true, decide_eq_true_eq]
  tauto

theorem configOk_iff {k o maxc : Word} :
    configOk k o maxc = true ↔
      (1 ≤ k.toNat ∧ k.toNat ≤ Config.kMax) ∧ 1 ≤ o.toNat ∧ k.toNat * o.toNat ≤ Config.nSlots ∧ 1 ≤ maxc.toNat ∧
        maxc.toNat ≤ 255 := configOkFor_iff

/-- Every implementation holds one counter: the smallest configuration is always valid (R143, corner case k = o = 1). -/
theorem configOk_one {maxc : Word} (h1 : 1 ≤ maxc.toNat) (h2 : maxc.toNat ≤ 255) : configOk 1#64 1#64 maxc = true := by
  have := Config.nSlots_pos
  have := Config.kMax_pos
  rw [configOk_iff]
  simp only [BitVec.toNat_ofNat]
  omega

/-! ## The gates -/

theorem hashGate_active {s e : State} (h : s.hashActive = true) : hashGate s e = .next (e.complete .none) := by
  simp [hashGate, h, succeed]

theorem hashGate_inactive {s e : State} (h : s.hashActive = false) :
    hashGate s e = .next (s.complete .noActiveHash) := by
  simp [hashGate, h, raiseError]

theorem filterGate_configured {f : State → Answer} {s : State} (h : s.cfgValid = true)
    (hok : configOk s.cfgK s.cfgO s.cfgMaxc = true) : filterGate f s = f s := by
  simp [filterGate, h, hok]

theorem filterGate_unconfigured {f : State → Answer} {s : State} (h : s.cfgValid = false) :
    filterGate f s = .next (s.complete .notConfigured) := by
  simp [filterGate, h, raiseError]

theorem filterGate_unfit {f : State → Answer} {s : State} (h : s.cfgValid = true)
    (hok : configOk s.cfgK s.cfgO s.cfgMaxc = false) : filterGate f s = .fault .unfitConfiguration := by
  simp [filterGate, h, hok]

/-- A filter command that answers a next state either found no configuration or made its effect on a valid one. -/
theorem filterGate_next {f : State → Answer} {s t : State} (h : filterGate f s = .next t) :
    (s.cfgValid = false ∧ t = s.complete .notConfigured) ∨
      (s.cfgValid = true ∧ configOk s.cfgK s.cfgO s.cfgMaxc = true ∧ f s = .next t) := by
  cases hv : s.cfgValid
  · rw [filterGate_unconfigured hv] at h; cases h; simp
  · cases hok : configOk s.cfgK s.cfgO s.cfgMaxc
    · rw [filterGate_unfit hv hok] at h; cases h
    · rw [filterGate_configured hv hok] at h; simp [h]

/-! ## Positions -/

theorem mem_positions {h : Word} {k o p : Nat} : p ∈ positions h k o ↔ ∃ i < k, position h o i = p := by
  simp [positions]

@[simp] theorem length_positions (h : Word) (k o : Nat) : (positions h k o).length = k := by simp [positions]

/-! ## What each command can do -/

/-- CONFIG (R143). -/
theorem execConfig_next {s t : State} (h : execConfig s = .next t) :
    (configOk s.paramK s.paramO s.paramMaxc = false ∧ t = s.complete .invalidConfiguration) ∨
      (configOk s.paramK s.paramO s.paramMaxc = true ∧ t = s.configure.complete .none) := by
  simp only [execConfig, succeed, raiseError] at h
  split_ifs at h with hok <;> cases h <;> simp_all

/-- HASH_INIT (R119). -/
theorem execHashInit_next {s t : State} (h : execHashInit s = .next t) :
    t = State.complete .none { s with v := sipInit s.ka0 s.ka1, hlen := 0#64, hashActive := true } := by
  cases h; rfl

/-- HASH_BLOCK (R120). -/
theorem execHashBlock_next {s t : State} (h : execHashBlock s = .next t) :
    (s.hashActive = false ∧ t = s.complete .noActiveHash) ∨
      (s.hashActive = true ∧ t = s.absorbBlock.complete .none) := by
  simp only [execHashBlock, hashGate, succeed, raiseError] at h
  split_ifs at h with ha <;> cases h <;> simp_all

/-- HASH_FINAL t (R121). -/
theorem execHashFinal_next {s t : State} {n : Nat} (h : execHashFinal n s = .next t) :
    (s.hashActive = false ∧ t = s.complete .noActiveHash) ∨
      (s.hashActive = true ∧ t = (s.finalizeHash n).complete .none) := by
  simp only [execHashFinal, hashGate, succeed, raiseError] at h
  split_ifs at h with ha <;> cases h <;> simp_all

/-- ADD (R150). -/
theorem execAdd_next {s t : State} (h : execAdd s = .next t) :
    (s.cfgValid = false ∧ t = s.complete .notConfigured) ∨
      (s.cfgValid = true ∧ configOk s.cfgK s.cfgO s.cfgMaxc = true ∧
        (((∃ p ∈ s.digestPositions, s.cfgMaxc.toNat ≤ (s.cnt.read p).toNat) ∧ t = s.complete .counterOverflow) ∨
          ((∀ p ∈ s.digestPositions, (s.cnt.read p).toNat < s.cfgMaxc.toNat) ∧
            t = State.complete .none
              { s with cnt := s.cnt.modifyAll (fun c => c + 1#8) s.digestPositions,
                       itemCount := s.itemCount + 1#64 }))) := by
  rcases filterGate_next h with h | ⟨hv, hok, h⟩
  · exact .inl h
  · refine .inr ⟨hv, hok, ?_⟩
    simp only [addEffect, succeed, raiseError] at h
    split_ifs at h with ha <;> cases h <;> simp_all

/-- REMOVE (R154). -/
theorem execRemove_next {s t : State} (h : execRemove s = .next t) :
    (s.cfgValid = false ∧ t = s.complete .notConfigured) ∨
      (s.cfgValid = true ∧ configOk s.cfgK s.cfgO s.cfgMaxc = true ∧
        (((∃ p ∈ s.digestPositions, s.cnt.read p = 0#8) ∧ t = s.complete .counterUnderflow) ∨
          ((∀ p ∈ s.digestPositions, s.cnt.read p ≠ 0#8) ∧
            t = State.complete .none
              { s with cnt := s.cnt.modifyAll (fun c => c - 1#8) s.digestPositions,
                       itemCount := s.itemCount - 1#64 }))) := by
  rcases filterGate_next h with h | ⟨hv, hok, h⟩
  · exact .inl h
  · refine .inr ⟨hv, hok, ?_⟩
    simp only [removeEffect, succeed, raiseError] at h
    split_ifs at h with ha <;> cases h <;> simp_all

/-- CONTAINS (R156). -/
theorem execContains_next {s t : State} (h : execContains s = .next t) :
    (s.cfgValid = false ∧ t = s.complete .notConfigured) ∨
      (s.cfgValid = true ∧ configOk s.cfgK s.cfgO s.cfgMaxc = true ∧
        t = State.complete .none { s with result := s.digestPositions.all (fun p => s.cnt.read p != 0#8) }) := by
  rcases filterGate_next h with h | ⟨hv, hok, h⟩
  · exact .inl h
  · cases h; exact .inr ⟨hv, hok, rfl⟩

end Sys2Proof.Machine
end

