-- ==== Sys2Proof/Laws/Bus.lean ====
section
/-! SUPPORT. What the host's accesses, reset and the choice of the agent can do, said once. -/

namespace Sys2Proof.Machine

/-! ## The register map -/

/-- Every register is found at its offset, so no two registers share one (R22, R48). -/
@[simp] theorem Reg.atOffset_offset (r : Reg) : Reg.atOffset r.offset = some r := by cases r <;> rfl

theorem Reg.offset_of_atOffset {off : Nat} {r : Reg} (h : Reg.atOffset off = some r) : r.offset = off := by
  simpa using List.find?_some h

/-- An offset above CNT_DATA's is reserved (R67). -/
theorem Reg.atOffset_reserved {off : Nat} (h : 0x88 ≤ off) : Reg.atOffset off = none := by
  cases hr : Reg.atOffset off with
  | none => rfl
  | some r => have := Reg.offset_of_atOffset hr; cases r <;> simp only [Reg.offset] at this <;> omega

/-! ## Platform addresses -/

theorem Config.base_aligned : Config.base % 0x100 = 0 := Nat.mul_mod_right _ _

/-- A platform address names an offset exactly when it lies in the 256 bytes at BASE. -/
theorem blockOffset_eq_some {addr off : Nat} :
    blockOffset addr = some off ↔ off < 0x100 ∧ addr = Config.base + off := by
  unfold blockOffset
  split_ifs with h
  · rw [Option.some.injEq]; omega
  · refine iff_of_false (by simp) fun hc => h ?_; omega

theorem Reg.offset_lt (r : Reg) : r.offset < 0x88 := by cases r <;> decide

/-- Every register is found at its platform address. -/
@[simp] theorem blockOffset_address (r : Reg) : blockOffset r.address = some r.offset :=
  blockOffset_eq_some.mpr ⟨lt_trans r.offset_lt (by decide), rfl⟩

/-! ## Accesses -/

/-- An access has a meaning exactly when it is 64 bits wide, below 0x100 and aligned (R66). -/
theorem accessRefusal_none {width off : Nat} :
    accessRefusal width off = none ↔ width = 64 ∧ off < 0x100 ∧ off % 8 = 0 := by
  simp only [accessRefusal]
  split_ifs <;> simp <;> omega

theorem checkedAccess_next {width off : Nat} {f : State → Answer} {s t : State}
    (h : checkedAccess width off f s = .next t) : (width = 64 ∧ off < 0x100 ∧ off % 8 = 0) ∧ f s = .next t := by
  simp only [checkedAccess] at h
  split at h
  · cases h
  · exact ⟨accessRefusal_none.mp ‹_›, h⟩

/-- A read changes the response and the draws only (R65: "changes no state"). -/
theorem regRead_next {off : Nat} {s t : State} (h : regRead off s = .next t) :
    t = s.respondFree ∨ ∃ w, t = s.respond w := by
  simp only [regRead, readCntData] at h
  repeat' split at h
  all_goals cases h
  all_goals first | exact .inl rfl | exact .inr ⟨_, rfl⟩

/-- What a write to a register does (R64). -/
theorem writeEffect_cases (off : Nat) (v : Word) (s : State) :
    (writeEffect off v s = s.writeStatus v ∧ off = Reg.status.offset) ∨
      (writeEffect off v s = { s with drop := true } ∧ s.busy = true ∧
          ∃ r : Reg, off = r.offset ∧ r.droppedWhenBusy = true) ∨
        (writeEffect off v s = s.issue v ∧ s.busy = false ∧ off = Reg.cmd.offset) ∨
          ∃ r : Reg, writeEffect off v s = s.store r v ∧ (s.busy = false ∨ r.droppedWhenBusy = false) := by
  simp only [writeEffect]
  cases h : Reg.atOffset off with
  | none => exact .inr (.inr (.inr ⟨.id, rfl, .inr rfl⟩))
  | some r =>
    have ho := Reg.offset_of_atOffset h
    by_cases h1 : r = .status
    · subst h1; exact .inl ⟨by simp, ho.symm⟩
    · by_cases h2 : (s.busy && r.droppedWhenBusy) = true
      · simp only [Bool.and_eq_true] at h2
        exact .inr (.inl ⟨by simp [h1, h2], h2.1, r, ho.symm, h2.2⟩)
      · by_cases h3 : r = .cmd
        · subst h3
          refine .inr (.inr (.inl ⟨by simp [h2], ?_, ho.symm⟩))
          simpa [Reg.droppedWhenBusy] using h2
        · refine .inr (.inr (.inr ⟨r, by simp [h1, h2, h3], ?_⟩))
          cases hb : s.busy <;> simp_all

/-- What the host's event can do, when it has a meaning. -/
theorem hostEvent_next {e : HostEvent} {s t : State} (h : hostEvent e s = .next t) :
    (∃ off, e = .read 64 off ∧ (t = s.respondFree ∨ ∃ w, t = s.respond w)) ∨
      (∃ off v, e = .write 64 off v ∧ t = (writeEffect off v s).acknowledge) ∨
        (e = .poll ∧ s.busy = true ∧ t = { s.respond s.statusWord with inbox := .poll :: s.inbox }) ∨
          (e = .poll ∧ s.busy = false ∧ t = s.respond s.statusWord) ∨ (e = .reset ∧ t = s.resetBlock) := by
  cases e with
  | read width off =>
    obtain ⟨⟨rfl, -, -⟩, h'⟩ := checkedAccess_next h
    exact .inl ⟨off, rfl, regRead_next h'⟩
  | write width off v =>
    obtain ⟨⟨rfl, -, -⟩, h'⟩ := checkedAccess_next h
    cases h'
    exact .inr (.inl ⟨off, v, rfl, rfl⟩)
  | poll =>
    cases h
    cases hb : s.busy <;> simp
  | reset => cases h; simp

/-! ## The agents -/

/-- The engine moves only while BUSY = 1, and then unless the host still has accesses to make first (R203, R204). -/
theorem State.turn_engine {s : State} : s.turn = .engine ↔ s.busy = true ∧ (s.inbox = [] ∨ s.latency = 0) := by
  unfold State.turn
  cases s.busy <;> cases s.inbox <;> simp

/-- The host moves when it has an access to make and the engine need not move first. -/
theorem State.turn_host {s : State} {e : HostEvent} {rest : List HostEvent} :
    s.turn = .host e rest ↔ s.inbox = e :: rest ∧ (s.busy = true → s.latency ≠ 0) := by
  unfold State.turn
  cases s.busy <;> cases s.inbox <;> simp
  split_ifs <;> simp_all

/-- Neither moves exactly when nothing is pending and the host has no access to make. -/
theorem State.turn_idle {s : State} : s.turn = .idle ↔ s.busy = false ∧ s.inbox = [] := by
  unfold State.turn
  cases s.busy <;> cases s.inbox <;> simp
  split_ifs <;> simp_all

/-- What the engine's step can do (R94, R203). -/
theorem engineStep_next {s t : State} (h : engineStep s = .next t) :
    (∃ i, decode s.pend = .ok i ∧ exec i s = .next t) ∨
      ((∃ r, decode s.pend = .error r) ∧ t = s.complete .illegalCommand) := by
  simp only [engineStep] at h
  split at h
  · exact .inl ⟨_, ‹_›, h⟩
  · cases h; exact .inr ⟨⟨_, ‹_›⟩, rfl⟩

/-- What a step can do: the engine completes, the host makes an access, or the block is idle (R60). -/
theorem step_next {s t : State} (h : step s = .next t) :
    (s.busy = true ∧ engineStep s = .next t) ∨
      (∃ e rest, s.inbox = e :: rest ∧ (s.busy = true → s.latency ≠ 0) ∧ hostEvent e (s.take rest) = .next t) ∨
        (s.busy = false ∧ s.inbox = [] ∧ t = s) := by
  simp only [step, agentStep] at h
  split at h
  · exact .inl ⟨(State.turn_engine.mp ‹_›).1, h⟩
  · obtain ⟨h1, h2⟩ := State.turn_host.mp ‹_›
    exact .inr (.inl ⟨_, _, h1, h2, h⟩)
  · obtain ⟨h1, h2⟩ := State.turn_idle.mp ‹_›
    cases h
    exact .inr (.inr ⟨h1, h2, rfl⟩)

end Sys2Proof.Machine
end

