-- ==== Sys2Proof/Laws/PerInstr.lean ====
section
/-! SUPPORT. A statement about every command's encoding, made per constructor: RSV is 0 in the word of a well-formed command, and
TLEN is 0 unless the command is HASH_FINAL (spec/30_encoding.md R90). -/

namespace Sys2Proof.Laws.ReservedBitsZero

/-- R90 for one command. -/
def Statement (i : Instr) : Prop :=
  WellFormed i → rsvField (encode i) = 0 ∧ (tlenField (encode i) = 0 ∨ opcField (encode i) = 0x12)

theorem nop : Statement .nop := fun _ => by decide
theorem config : Statement .config := fun _ => by decide
theorem hashInit : Statement .hashInit := fun _ => by decide
theorem hashBlock : Statement .hashBlock := fun _ => by decide
theorem hashFinal (tlen : Nat) : Statement (.hashFinal tlen) := fun h => by
  have h : tlen < 8 := by simpa [WellFormed, Instr.wf] using h
  have hw : (encode (.hashFinal tlen)).toNat = 0x12 + tlen * 0x100 := by
    simp only [encode, BitVec.toNat_ofNat]; omega
  simp only [rsvField, opcField, hw]
  omega
theorem add : Statement .add := fun _ => by decide
theorem remove : Statement .remove := fun _ => by decide
theorem contains : Statement .contains := fun _ => by decide

end Sys2Proof.Laws.ReservedBitsZero
end

