-- ==== Sys2Proof/Machine/HostProgram.lean ====
section
/-! DEFINITION. The text in which the spec writes host programs (spec/30_encoding.md R96-R98): statements, pseudo-instructions
and the accesses they stand for. The text is no part of the hardware (decision D40); the block sees only the accesses. -/

namespace Sys2Proof.Machine

/-- A statement of R96. -/
inductive Stmt where
  /-- `WR <REG>, <value>`. -/
  | wr (r : Reg) (v : Word)
  /-- `RD <REG>`. -/
  | rd (r : Reg)
  /-- `CMD <MNEMONIC> [t]`. -/
  | cmd (i : Instr)
  /-- `WAIT`. -/
  | wait
  /-- `EXPECT <REG>[.<FIELD>] = <value>`: bits hi:lo of the last value read. -/
  | expect (hi lo v : Nat)
  deriving DecidableEq, Repr

/-- The accesses of a statement (R96). EXPECT is a check, no access. -/
def Stmt.events : Stmt → List HostEvent
  | .wr r v => [.write 64 r.offset v]
  | .rd r => [.read 64 r.offset]
  | .cmd i => [.write 64 Reg.cmd.offset (encode i)]
  | .wait => [.poll]
  | .expect _ _ _ => []

/-- The accesses of a program. -/
def hostEvents (p : List Stmt) : List HostEvent := p.flatMap Stmt.events

/-- The last value the host has read, `before` being the one before the step that left `s`: a write and a reset return none, so it
stands over them (R96). -/
def lastRead (before : Option Word) (s : State) : Option Word :=
  match s.rsp with
  | some w => some w
  | none => before

/-- What EXPECT checks on the last value read; every other statement checks nothing (R96). DESIGN CHOICE (log entry 24): while no
value has been read the check fails, on which the spec is silent. -/
def Stmt.check (t : Stmt) (last : Option Word) : Bool :=
  match t with
  | .expect hi lo v =>
    match last with
    | some w => w.toNat / 2 ^ lo % 2 ^ (hi + 1 - lo) == v
    | none => false
  | .wr _ _ | .rd _ | .cmd _ | .wait => true

/-- `DO <MNEMONIC> [t]` (R98). -/
def doCommand (i : Instr) : List Stmt := [.cmd i, .wait]

/-- `SETKEY K[0..15]` (R98). -/
def setKey (key : List Byte) : List Stmt := [.wr .key0 (keyWord0 key), .wr .key1 (keyWord1 key)]

/-- `CONFIGURE k, o, maxc` (R98). -/
def configureStmts (k o maxc : Word) : List Stmt :=
  [.wr .paramK k, .wr .paramO o, .wr .paramMaxc maxc] ++ doCommand .config

/-- `HASH b` (R98). -/
def hashStmts (b : List Byte) : List Stmt :=
  doCommand .hashInit ++
    (List.range (b.length / 8)).flatMap (fun i => .wr .data (blockAt b i) :: doCommand .hashBlock) ++
      (.wr .data (wordLE (tailBytes b)) :: doCommand (.hashFinal (b.length % 8)))

/-- `ITEM_ADD b` (R98). -/
def itemAdd (b : List Byte) : List Stmt := hashStmts b ++ doCommand .add ++ [.rd .status]

/-- `ITEM_REMOVE b` (R98). -/
def itemRemove (b : List Byte) : List Stmt := hashStmts b ++ doCommand .remove ++ [.rd .status]

/-- `ITEM_CONTAINS b` (R98). -/
def itemContains (b : List Byte) : List Stmt := hashStmts b ++ doCommand .contains ++ [.rd .status]

end Sys2Proof.Machine
end

