-- ==== Sys2Proof/Tests/Slice0.lean ====
section
/-! SUPPORT. Tests with expected results from the spec (spec/95_test_vectors.md and the worked examples of the rules), and a witness for
every statement that has hypotheses. -/

namespace Sys2Proof.Tests

open Sys2Proof.Machine

/-! ## Helpers -/

/-- The next state of an answer. -/
def next? : Answer → Option State
  | .next s => some s
  | .fault _ => none
  | .refused _ => none

/-- The refusal of an answer. -/
def refusal? : Answer → Option Refusal
  | .next _ => none
  | .fault _ => none
  | .refused r => some r

/-- The decoder's answer as an option. -/
def decode? (w : Word) : Option Instr :=
  match decode w with
  | .ok i => some i
  | .error _ => none

/-- The decoder's reason as an option. -/
def decodeError? (w : Word) : Option DecodeError :=
  match decode w with
  | .ok _ => none
  | .error e => some e

/-- Key K16 active (bytes 0x00..0x0f). -/
def k16 : State := { State.reset with ka0 := 0x0706050403020100#64, ka1 := 0x0f0e0d0c0b0a0908#64 }

/-- V2: after HASH_INIT with key K16. -/
def v2State : State :=
  { k16 with
    v := ⟨0x7469686173716475#64, 0x6b617f6d656e6665#64, 0x6b7f62616d677361#64, 0x7b6b696e727e6c7b#64⟩
    hashActive := true }

/-- V3: after HASH_BLOCK of message bytes 0x00..0x07. -/
def v3State : State :=
  { k16 with
    v := ⟨0x4a017198de0a59e0#64, 0x0d52f6f62a4f59a4#64, 0x634cb3577b01fd3d#64, 0xa5224d6f55c7d9c8#64⟩
    hashActive := true
    hlen := 8#64 }

/-- msg(n): the bytes 0x00, 0x01, ... -/
def msg (n : Nat) : List Byte := (List.range n).map (BitVec.ofNat 8)

/-- An empty filter after CONFIG(3, 5, 2), with the digest of V50. -/
def filter352 : State :=
  { State.reset with
    cfgValid := true, cfgK := 3#64, cfgO := 5#64, cfgMaxc := 2#64, digest := 0x0000000700000003#64 }

/-- The smallest configuration, CONFIG(1, 1, 1), empty. Every implementation holds it. -/
def small : State := { State.reset with cfgValid := true, cfgK := 1#64, cfgO := 1#64, cfgMaxc := 1#64 }

/-- `small` after one ADD. -/
def smallFull : State := { small with cnt := [(0, 1#8)], itemCount := 1#64 }

/-- PARAM_* = (1, 1, 255), a staged key, CONFIG pending. -/
def configPending : State :=
  { State.reset with paramK := 1#64, paramO := 1#64, key0 := 5#64, busy := true, pend := 0x0000000000000001#64 }

/-- A command pending, and the host still to make two accesses before its completion. -/
def busyState : State :=
  { State.reset with busy := true, pend := 0x0000000000000020#64, latency := 1, inbox := [.write 64 0x28 7#64, .poll] }

theorem small_ok : configOk small.cfgK small.cfgO small.cfgMaxc = true := configOk_one (by decide) (by decide)

theorem small_inv : small.Inv where
  config := by simpa [State.ConfigConsistent, small] using small_ok
  canonical := ⟨rfl, by simp [Memory.inRange, small, State.reset]⟩
  bounded := fun _ _ _ => Nat.zero_le _
  sum := fun _ => by decide

theorem smallFull_inv : smallFull.Inv where
  config := by simpa [State.ConfigConsistent, smallFull, small] using small_ok
  canonical := ⟨rfl, by simp [Memory.inRange, smallFull]; exact Config.nSlots_pos⟩
  bounded := fun _ j hj => by
    have : j = 0 := Nat.lt_one_iff.mp hj
    subst this; decide
  sum := fun _ => by decide

theorem reset_inv : State.reset.Inv where
  config := ⟨rfl, rfl, rfl, rfl⟩
  canonical := ⟨rfl, by simp [Memory.inRange, State.reset]⟩
  bounded := fun h => by cases h
  sum := fun h => by cases h

theorem add_small :
    exec .add small = .next { smallFull with err := .none, busy := false } :=
  (filterGate_configured rfl small_ok).trans rfl

/-! ## WellFormed -/

/-- R90: TLEN is 0..7, so a tail length of 8 is refused. -/
theorem test_wf_refuses_tail_of_eight : Instr.wf (.hashFinal 8) = false ∧ Instr.wf (.hashFinal 7) = true := by decide

/-! ## Decoding: words written out from R90 and R93 -/

theorem test_decode_nop : decode? 0x0000000000000000#64 = some .nop := by decide
theorem test_decode_config : decode? 0x0000000000000001#64 = some .config := by decide
theorem test_decode_hash_init : decode? 0x0000000000000010#64 = some .hashInit := by decide
theorem test_decode_hash_block : decode? 0x0000000000000011#64 = some .hashBlock := by decide
/-- R93's list 0x012 .. 0x712. -/
theorem test_decode_hash_final :
    [0x012#64, 0x112#64, 0x212#64, 0x312#64, 0x412#64, 0x512#64, 0x612#64, 0x712#64].map decode? =
      (List.range 8).map (fun t => some (.hashFinal t)) := by decide
theorem test_decode_add : decode? 0x0000000000000020#64 = some .add := by decide
theorem test_decode_remove : decode? 0x0000000000000021#64 = some .remove := by decide
theorem test_decode_contains : decode? 0x0000000000000022#64 = some .contains := by decide
/-- The same word bit by bit: OPC = 0001 0010, TLEN = 111, RSV = 0 (R90, R99). -/
theorem test_decode_hash_final_bits : decode? (0#53 ++ 0b111#3 ++ 0b00010010#8) = some (.hashFinal 7) := by decide
/-- V60's illegal words. -/
theorem test_decode_illegal :
    [0x0720#64, 0x0100#64, 0x0800#64, 0x8000000000000020#64, 0x02#64, 0xFF#64, 0x23#64].map decodeError? =
      [some (.tailLength 0x20 7), some (.tailLength 0 1), some (.reservedBits 1), some (.reservedBits (2 ^ 52)),
        some (.opcode 2), some (.opcode 0xFF), some (.opcode 0x23)] := by decide
theorem test_decode_table_word : decodeTableWord 64 0x312 = some (.hashFinal 3) := by decide

/-! ## NOP and illegal words -/

/-- R180's example: ERR = COUNTER_OVERFLOW becomes NONE. -/
theorem test_nop_clears_err :
    (next? (exec .nop { State.reset with err := .counterOverflow, busy := true })).map (fun s => (s.err, s.busy)) =
      some (.none, false) := by decide

/-- R181's example: the word 0xFF completes with code 6. -/
theorem test_illegal_word_completes :
    (next? (step (State.reset.withFetchWord 64 0xFF))).map (fun s => s.statusWord) = some 0x600#64 := by decide

/-! ## CONFIG -/

/-- V40, N_SLOTS = 64 and K_MAX = 8. -/
theorem test_config_table :
    [(0, 0, 255), (1, 1, 255), (2, 3, 256), (2, 3, 0), (2, 3, 1), (9, 1, 1), (8, 8, 255), (8, 9, 255),
        (2 ^ 32, 2 ^ 32, 1), (1, 0, 1), (1, 64, 0x100000001)].map
        (fun (p : Nat × Nat × Nat) =>
          configOkFor 64 8 (BitVec.ofNat 64 p.1) (BitVec.ofNat 64 p.2.1) (BitVec.ofNat 64 p.2.2)) =
      [false, true, false, false, true, false, true, false, false, false, false] := by decide

/-- V40's first row: CONFIG right after reset is invalid (STATUS 0x100). -/
theorem test_config_after_reset :
    (next? (step (State.reset.withFetchWord 64 0x1))).map (fun s => s.statusWord) = some 0x100#64 := by decide

/-- V40's second row, with the key copied (R143). -/
theorem test_config_smallest :
    exec .config configPending = .next { configPending.configure with err := .none, busy := false } := by
  have h : configOk configPending.paramK configPending.paramO configPending.paramMaxc = true :=
    configOk_one (by decide) (by decide)
  show execConfig _ = _
  unfold execConfig
  rw [if_pos h]
  rfl

/-! ## The hash -/

/-- V8: SipRound of (1, 2, 3, 4). -/
theorem test_sip_round :
    sipRound ⟨1#64, 2#64, 3#64, 4#64⟩ =
      ⟨0x0000000300040007#64, 0x000000008006400a#64, 0x0000400a00000000#64, 0x0000008300e40007#64⟩ := by decide

/-- V9: Finalize of the zero state. -/
theorem test_finalize : sipDigest (sipFinalState ⟨0#64, 0#64, 0#64, 0#64⟩) = 0x3c4ceb5cc070daa0#64 := by decide

/-- V11: the padding blocks of b"helloworld" and of 255 zero bytes. -/
theorem test_pad :
    pad (msg 17) = 0x1100000000000010#64 ∧ pad (List.replicate 255 0#8) = 0xff00000000000000#64 := by decide +kernel

/-- V1, the source's test vector. -/
theorem test_source_vector : sipHash24 (msg 16) (msg 15) = 0xa129ca6149be45e5#64 := by decide +kernel

/-- V13: a message of 256 bytes, whose length byte is 0. -/
theorem test_long_message : sipHash24 (msg 16) (msg 256) = 0x999d0526d2a7bfd7#64 := by decide +kernel

/-- V2. -/
theorem test_hash_init :
    (next? (exec .hashInit k16)).map (fun s => (s.v, s.hlen, s.hashActive)) =
      some (v2State.v, 0#64, true) := by decide

/-- V3. -/
theorem test_hash_block :
    (next? (exec .hashBlock { v2State with data := 0x0706050403020100#64 })).map (fun s => (s.v, s.hlen)) =
      some (v3State.v, 8#64) := by decide

/-- V17: HASH_BLOCK after reset gives code 5. -/
theorem test_hash_block_inactive :
    (next? (step (State.reset.withFetchWord 64 0x11))).map (fun s => s.statusWord) = some 0x500#64 := by decide

/-- V4. -/
theorem test_hash_final :
    (next? (exec (.hashFinal 7) { v3State with data := 0x000e0d0c0b0a0908#64 })).map
        (fun s => (s.digest, s.hlen, s.hashActive, s.v.v2)) =
      some (0xa129ca6149be45e5#64, 15#64, false, 0x1b38329c099bb55a#64) := by decide

/-- V16: the bytes of DATA above the tail are ignored. -/
theorem test_hash_final_masks_data :
    (next? (exec (.hashFinal 1) { v2State with data := 0xdeadbeefcafeba41#64 })).map (fun s => s.digest) =
      some 0x712910e8adb79065#64 := by decide

/-! ## Positions -/

/-- V30: the two fixed items that collide, and a digest with h2 = 0. -/
theorem test_positions :
    positions 0x726fdb47dd0e0e31#64 4 7 = [2, 13, 17, 21] ∧ positions 0xe8970eb6e7ebde90#64 4 7 = [2, 13, 17, 21] ∧
      positions 0x0000000500000000#64 4 7 = [5, 12, 19, 26] := by decide

/-- V33: exact arithmetic, where 32-bit wrapping would give (3, 9, 15, 21). -/
theorem test_positions_exact : positions 0xffffffffffffffff#64 4 7 = [3, 13, 16, 26] := by decide

/-! ## ADD, REMOVE, CONTAINS on a configured filter (V50) -/

/-- V50 row 2. -/
theorem test_add :
    (next? (addEffect filter352)).map (fun s => (s.cnt, s.itemCount, s.err)) =
      some ([(2, 1#8), (5, 1#8), (13, 1#8)], 1#64, .none) := by decide

/-- V51: one full counter, and the overflow is atomic. -/
theorem test_add_overflow :
    (next? (addEffect { filter352 with digest := 0x0000000200000001#64, cnt := [(2, 2#8), (5, 2#8), (13, 2#8)] })).map
        (fun s => (s.cnt, s.err)) =
      some ([(2, 2#8), (5, 2#8), (13, 2#8)], .counterOverflow) := by decide

/-- V50 row 7. -/
theorem test_remove :
    (next? (removeEffect { filter352 with cnt := [(2, 1#8), (5, 1#8), (13, 1#8)], itemCount := 1#64 })).map
        (fun s => (s.cnt, s.itemCount, s.err)) = some ([], 0#64, .none) := by decide

/-- V50 row 8. -/
theorem test_remove_underflow :
    (next? (removeEffect filter352)).map (fun s => (s.cnt, s.itemCount, s.err)) =
      some ([], 0#64, .counterUnderflow) := by decide

/-- V50 row 5 and V51's CONTAINS. -/
theorem test_contains :
    (next? (containsEffect { filter352 with cnt := [(2, 2#8), (5, 2#8), (13, 2#8)] })).map (fun s => s.result) =
        some true ∧
      (next? (containsEffect
          { filter352 with digest := 0x0000000200000001#64, cnt := [(2, 2#8), (5, 2#8), (13, 2#8)] })).map
        (fun s => s.result) = some false := by decide

/-- V53: a filter command after reset gives code 4 (STATUS 0x400). -/
theorem test_contains_not_configured :
    (next? (step (State.reset.withFetchWord 64 0x22))).map (fun s => s.statusWord) = some 0x400#64 := by decide

/-! ## Host accesses (V70) -/

/-- RegRead(0x00), RegRead(0x48) after reset, RegRead(0x88) and RegRead(0xF8). -/
theorem test_reads_after_reset :
    [0x00, 0x48, 0x80, 0x88, 0xF8].map (fun off => (next? (hostEvent (.read 64 off) State.reset)).bind (fun s => s.rsp)) =
      [some 0x5349504342460001#64, some 0xFF#64, some 0#64, some 0#64, some 0#64] := by decide

/-- BUSY = 1: a write to DATA is dropped, a write to CFG_K has no effect. -/
theorem test_writes_while_busy :
    (next? (hostEvent (.write 64 0x28 7#64) busyState)).map (fun s => (s.data, s.drop)) = some (0#64, true) ∧
      (next? (hostEvent (.write 64 0x50 7#64) busyState)).map (fun s => (s.cfgK, s.drop)) = some (0#64, false) := by
  decide

/-- RegWrite(0x10, 0x10) clears DROP, RegWrite(0x10, 0xFFFFFFFFFFFFFFEF) does not. -/
theorem test_status_write :
    (next? (hostEvent (.write 64 0x10 0x10#64) { busyState with drop := true })).map (fun s => s.drop) = some false ∧
      (next? (hostEvent (.write 64 0x10 0xFFFFFFFFFFFFFFEF#64) { busyState with drop := true })).map (fun s => s.drop) =
        some true := by decide

/-- A 32-bit access, RegRead(0x0C) and an access at 0x100 are refused. -/
theorem test_refused_accesses :
    [(32, 0x08), (64, 0x0C), (64, 0x100)].map
        (fun (p : Nat × Nat) => refusal? (hostEvent (.read p.1 p.2) State.reset)) =
      [some (.accessWidth 32), some (.misaligned 0x0C), some (.outsideBlock 0x100)] := by decide

/-- A command issue: PEND and BUSY. -/
theorem test_issue :
    (next? (hostEvent (.write 64 0x08 0x22#64) State.reset)).map (fun s => (s.pend, s.busy, s.err)) =
      some (0x22#64, true, .none) := by decide

/-- The invariant form of memory: a write of 0 removes the entry. -/
theorem test_memory_canonical :
    Memory.write [(2, 1#8), (5, 3#8)] 2 0#8 = [(5, 3#8)] ∧ Memory.write [(5, 3#8)] 2 1#8 = [(2, 1#8), (5, 3#8)] := by
  decide

/-! ## Program text (R98, V15) -/

/-- V15: the accesses of `HASH b"helloworld"`. -/
theorem test_hash_expansion :
    hostEvents (hashStmts [0x68#8, 0x65#8, 0x6c#8, 0x6c#8, 0x6f#8, 0x77#8, 0x6f#8, 0x72#8, 0x6c#8, 0x64#8]) =
      [.write 64 0x08 0x10#64, .poll, .write 64 0x28 0x726f776f6c6c6568#64, .write 64 0x08 0x11#64, .poll,
        .write 64 0x28 0x646c#64, .write 64 0x08 0x212#64, .poll] := by decide

/-- R98: SETKEY of bytes 0x00..0x0f (program P1, statements 1 and 2). -/
theorem test_set_key :
    hostEvents (setKey (msg 16)) = [.write 64 0x18 0x0706050403020100#64, .write 64 0x20 0x0f0e0d0c0b0a0908#64] := by
  decide

/-! ## Witnesses: the hypotheses of every statement can be met, clause by clause -/

/-- R96: EXPECT checks the last value read, also with a write in between; bits 63:16 of ID are "SIPCBF" (R24). -/
theorem test_expect :
    (Stmt.expect 63 16 0x534950434246).check (lastRead (some idValue) (State.acknowledge State.reset)) = true ∧
      (Stmt.expect 15 0 2).check (lastRead none (State.respond idValue State.reset)) = false := by decide

theorem witness_DecodeAgreesWithEncode :
    decode? 0x0712#64 = some (.hashFinal 7) ∧ WellFormed (.hashFinal 7) ∧ encode (.hashFinal 7) = 0x0712#64 := by decide

theorem witness_IllegalWordsAreExactlyThese :
    (decodeError? { State.reset with pend := 0x800#64 }.pend).isSome = true ∧
      (decodeError? 0x02#64).isSome = true ∧ (decodeError? 0x100#64).isSome = true := by decide

theorem witness_StepCompletesThePendingCommand :
    (let s : State := { busyState with inbox := [] }
     s.busy = true ∧ (s.inbox = [] ∨ s.latency = 0) ∧ decode? s.pend = some .add) ∧
      (let s : State := { busyState with latency := 0 }
       s.busy = true ∧ (s.inbox = [] ∨ s.latency = 0) ∧ decode? s.pend = some .add) ∧
        (let s : State := { busyState with latency := 0, pend := 0x720#64 }
         s.busy = true ∧ (s.inbox = [] ∨ s.latency = 0) ∧ decode? s.pend = none) := by decide

theorem witness_StepMakesTheNextHostAccess :
    (busyState.inbox = .write 64 0x28 7#64 :: [.poll] ∧ (busyState.busy = false ∨ busyState.latency ≠ 0)) ∧
      (let s : State := { State.reset with inbox := [.poll] }
       s.inbox = .poll :: [] ∧ (s.busy = false ∨ s.latency ≠ 0)) := by decide

theorem witness_IdleBlockWaits :
    (State.reset.busy = false ∧ State.reset.inbox = []) ∧ (busyState.busy = true ∨ busyState.inbox ≠ []) ∧
      (let s : State := { State.reset with inbox := [.poll] }
       s.busy = false ∧ s.inbox ≠ []) := by decide

theorem misalignedState_inv : State.Inv { State.reset with inbox := [.read 64 0x0C] } where
  config := ⟨rfl, rfl, rfl, rfl⟩
  canonical := ⟨rfl, by simp [Memory.inRange, State.reset]⟩
  bounded := fun h => by cases h
  sum := fun h => by cases h

theorem witness_StepStopsOnlyAtMeaninglessAccess :
    State.Inv { State.reset with inbox := [.read 64 0x0C] } ∧
      refusal? (step { State.reset with inbox := [.read 64 0x0C] }) = some (.misaligned 0x0C) :=
  ⟨misalignedState_inv, by decide⟩

theorem busyState_inv : busyState.Inv where
  config := ⟨rfl, rfl, rfl, rfl⟩
  canonical := ⟨rfl, by simp [Memory.inRange, busyState, State.reset]⟩
  bounded := fun h => by cases h
  sum := fun h => by cases h

theorem witness_PendingCommandCompletes :
    busyState.Inv ∧ busyState.busy = true ∧ (∀ e ∈ busyState.inbox, e.meaningful = true ∧ e ≠ .reset) :=
  ⟨busyState_inv, rfl, by decide⟩

theorem witness_OperandsAreFrozenWhileBusy :
    busyState.busy = true ∧ (next? (step busyState)).map (fun t => (t.busy, t.drop)) = some (true, true) := by decide

theorem witness_RegWriteFollowsItsChain :
    (0x00 < 0x100 ∧ 0x00 % 8 = 0) ∧ (0xF8 < 0x100 ∧ 0xF8 % 8 = 0) ∧ (busyState.busy = true ∧ 0x78 ∈ [0x08, 0x18, 0x20,
      0x28, 0x30, 0x38, 0x40, 0x48, 0x78]) ∧ State.reset.busy = false := by decide

/-- Both sides of R43's bound: index 0 is the last configured counter of `smallFull`, index 1 the first unused one. -/
theorem witness_RegReadFollowsItsChain :
    (0x80 < 0x100 ∧ 0x80 % 8 = 0) ∧ configOk smallFull.cfgK smallFull.cfgO smallFull.cfgMaxc = true ∧
      hostEvent (.read 64 0x80) smallFull = .next (smallFull.respond 1#64) ∧
        hostEvent (.read 64 0x80) { smallFull with cntIndex := 1#64 } =
          .next (State.respond 0#64 { smallFull with cntIndex := 1#64 }) := by
  refine ⟨by decide, small_ok, ?_, rfl⟩
  show readCntData smallFull = _
  unfold readCntData
  rw [if_pos (by decide), if_pos (show configOk smallFull.cfgK smallFull.cfgO smallFull.cfgMaxc = true from small_ok)]
  rfl

theorem witness_WrittenRegisterReadsBack :
    State.reset.busy = false ∧
      [(0x28, 9), (0x78, 9), (0x18, 9), (0x50, 9)].map (fun (p : Nat × Nat) =>
          ((next? (hostEvent (.write 64 p.1 (BitVec.ofNat 64 p.2)) State.reset)).bind
            (fun t => next? (hostEvent (.read 64 p.1) t))).bind (fun u => u.rsp)) =
        [some 9#64, some 9#64, some 0#64, some 0#64] := by decide

theorem witness_DropIsSticky :
    ((next? (step busyState)).map (fun t => t.drop) = some true ∧ busyState.drop = false) ∧
      (next? (step { State.reset with drop := true, inbox := [.write 64 0x10 0x10#64] })).map (fun t => t.drop) =
          some false ∧
        (next? (step { State.reset with drop := true, inbox := [.reset] })).map (fun t => t.drop) = some false := by
  decide

theorem witness_KeyIsUnreadable :
    State.reset.SameButKey { State.reset with key0 := 1#64, ka1 := 2#64, v := ⟨3#64, 0#64, 0#64, 0#64⟩ } ∧
      State.reset ≠ { State.reset with key0 := 1#64, ka1 := 2#64, v := ⟨3#64, 0#64, 0#64, 0#64⟩ } := by
  exact ⟨rfl, by decide⟩

theorem witness_ResetLeavesTheseValues : ∃ t, hostEvent .reset busyState = .next t := ⟨_, rfl⟩

theorem witness_ResetMeetsInvariant : ∃ t, hostEvent .reset smallFull = .next t := ⟨_, rfl⟩

theorem witness_StepKeepsInvariant :
    small.Inv ∧ ∃ t, step { small with busy := true, pend := 0x20#64 } = .next t :=
  ⟨small_inv, _, by
    show execAdd { small with busy := true, pend := 0x20#64 } = _
    exact filterGate_configured rfl small_ok⟩

/-- The valid clause at max_count = 255 and 1, the invalid one at max_count = 0 and 256 (R142's boundaries). -/
theorem witness_ConfigBuildsAnEmptyFilter :
    ((1 ≤ (1#64).toNat ∧ (1#64).toNat ≤ Config.kMax) ∧ 1 ≤ (1#64).toNat ∧
        (1#64).toNat * (1#64).toNat ≤ Config.nSlots ∧ 1 ≤ (255#64).toNat ∧ (255#64).toNat ≤ 255) ∧
      ¬(1 ≤ (0#64).toNat) ∧ ¬((256#64).toNat ≤ 255) := by
  have := Config.nSlots_pos
  have := Config.kMax_pos
  simp only [BitVec.toNat_ofNat]
  omega

theorem witness_NopOnlyCompletes : busyState.busy = true := rfl

/-- Both values of the written bit 4, on a state whose DROP is set. -/
theorem witness_StatusFieldsStandWhereTheyShould :
    ((next? (hostEvent (.write 64 0x10 0x10#64) { State.reset with drop := true })).map State.statusWord = some 0#64) ∧
      (next? (hostEvent (.write 64 0x10 0xFFFFFFFFFFFFFFEF#64) { State.reset with drop := true })).map State.statusWord =
        some 0x10#64 := by decide

theorem witness_HashBlockAbsorbsOneBlock : v2State.hashActive = true ∧ State.reset.hashActive = false := by decide

theorem witness_HashFinalWritesTheDigest :
    0 < 8 ∧ 7 < 8 ∧ v2State.hashActive = true ∧ State.reset.hashActive = false := by decide

/-- Each clause: no configuration, a full counter (1 = max_count), an empty counter. -/
theorem witness_AddCountsAllPositionsOrNone :
    (State.reset.cnt.wf = true ∧ State.reset.cfgValid = false) ∧
      (smallFull.cnt.wf = true ∧ configOk smallFull.cfgK smallFull.cfgO smallFull.cfgMaxc = true ∧
        ∃ p ∈ positions smallFull.digest smallFull.cfgK.toNat smallFull.cfgO.toNat,
          smallFull.cfgMaxc.toNat ≤ (smallFull.cnt.read p).toNat) ∧
        (small.cnt.wf = true ∧ configOk small.cfgK small.cfgO small.cfgMaxc = true ∧
          ∀ p ∈ positions small.digest small.cfgK.toNat small.cfgO.toNat,
            (small.cnt.read p).toNat < small.cfgMaxc.toNat) :=
  ⟨by decide, ⟨rfl, small_ok, by decide⟩, rfl, small_ok, by decide⟩

theorem witness_RemoveUncountsAllPositionsOrNone :
    (State.reset.Inv ∧ State.reset.cfgValid = false) ∧
      (small.Inv ∧ small.cfgValid = true ∧
        ∃ p ∈ positions small.digest small.cfgK.toNat small.cfgO.toNat, small.cnt.read p = 0#8) ∧
        (smallFull.Inv ∧ smallFull.cfgValid = true ∧
          ∀ p ∈ positions smallFull.digest smallFull.cfgK.toNat smallFull.cfgO.toNat, smallFull.cnt.read p ≠ 0#8) :=
  ⟨⟨reset_inv, rfl⟩, ⟨small_inv, rfl, by decide⟩, smallFull_inv, rfl, by decide⟩

theorem witness_ContainsTestsEveryPosition :
    State.reset.cfgValid = false ∧ small.cfgValid = true ∧ configOk small.cfgK small.cfgO small.cfgMaxc = true :=
  ⟨rfl, rfl, small_ok⟩

/-- Every code is raised somewhere. -/
theorem witness_ErrorCodesAndWhoRaisesThem :
    (next? (exec .config State.reset)).map (fun t => t.err) = some .invalidConfiguration ∧
      (next? (addEffect smallFull)).map (fun t => t.err) = some .counterOverflow ∧
        (next? (removeEffect small)).map (fun t => t.err) = some .counterUnderflow ∧
          (next? (exec .add State.reset)).map (fun t => t.err) = some .notConfigured ∧
            (next? (exec .hashBlock State.reset)).map (fun t => t.err) = some .noActiveHash ∧
              (next? (engineStep { State.reset with pend := 0xFF#64 })).map (fun t => t.err) =
                some .illegalCommand := by decide

theorem witness_ErrorsChangeNothingElse :
    (next? (exec (.hashFinal 3) State.reset)).map (fun t => t.err) = some .noActiveHash ∧
      (next? (engineStep { State.reset with pend := 0x720#64 })).map (fun t => t.err) = some .illegalCommand := by decide

theorem witness_ErrorsRepeat : exec .add smallFull = .next { smallFull with err := .counterOverflow, busy := false } :=
  (filterGate_configured (s := smallFull) (f := addEffect) rfl small_ok).trans rfl

theorem witness_CompletionWritesOnlyItsFlags :
    (next? (exec .hashInit State.reset)).map (fun t => t.hashActive) = some true ∧
      (next? (exec (.hashFinal 0) v2State)).map (fun t => t.hashActive) = some false := by decide

theorem witness_ActiveKeyChangesOnlyAtConfig :
    (∃ t, step configPending = .next t ∧ t.ka0 ≠ configPending.ka0) ∧
      ∃ t, step { k16 with inbox := [.reset] } = .next t ∧ t.ka0 ≠ k16.ka0 :=
  ⟨⟨_, test_config_smallest, by decide⟩, _, rfl, by decide⟩

theorem witness_ActiveParametersChangeOnlyAtConfig :
    ∃ t, step configPending = .next t ∧ t.cfgK = configPending.paramK := ⟨_, test_config_smallest, rfl⟩

theorem witness_ItemCountIsTheNetCount : small.Inv ∧ ∃ t, exec .add small = .next t := ⟨small_inv, _, add_small⟩

theorem witness_HashCommandsLeaveTheFilterAlone : ∃ t, exec .hashBlock v2State = .next t := ⟨_, rfl⟩

theorem witness_FilterCommandsLeaveTheHashAlone : ∃ t, exec .add small = .next t := ⟨_, add_small⟩

theorem witness_UnusedCountersAreNeverWritten :
    small.Inv ∧ ∃ t, exec .add small = .next t ∧ t.window ≤ 1 := ⟨small_inv, _, add_small, by decide⟩

/-- The three clauses: the start, block 0 of an eight-byte message, and the tail of a seven-byte one. -/
theorem witness_CommandSequenceComputesTheHash :
    (v2State.Absorbed (msg 8) 0 ∧ State.data { v2State with data := 0x0706050403020100#64 } = blockAt (msg 8) 0) ∧
      v2State.Absorbed (msg 7) ((msg 7).length / 8) ∧
        (0xff06050403020100#64 : Word).toNat % 2 ^ (8 * ((msg 7).length % 8)) = packLE (tailBytes (msg 7)) :=
  ⟨⟨⟨rfl, by decide, by decide⟩, by decide⟩, ⟨rfl, by decide, by decide⟩, by decide⟩

theorem witness_PositionsLieInTheirSegments : 1 ≤ 1 ∧ positions 0xdeadbeefcafebabe#64 4 1 = [0, 1, 2, 3] := by decide

/-- R149's example: h = 2^64 - 1, o = 7. -/
theorem witness_IncrementalSlotsAreExact :
    1 ≤ 7 ∧ (List.range 4).map (slotIncremental 0xffffffffffffffff#64 7) = [3, 6, 2, 5] := by decide

theorem witness_SixtyFourBitPositionsAreExact : configOk 1#64 1#64 255#64 = true ∧ 0 < (1#64).toNat :=
  ⟨configOk_one (by decide) (by decide), by decide⟩

theorem witness_ItemCountIsBounded : smallFull.Inv := smallFull_inv

theorem witness_RemoveUndoesAdd :
    small.Inv ∧ ∃ t, exec .add small = .next t ∧ t.err = .none ∧ t.digest = small.digest :=
  ⟨small_inv, _, add_small, rfl, rfl⟩

/-- One live ADD of the digest 0, which is also the digest of the next command. -/
theorem witness_NoFalseNegatives :
    smallFull.Inv ∧ smallFull.cfgValid = true ∧ smallFull.Tracks [0#64] ∧ smallFull.digest ∈ [0#64] :=
  ⟨smallFull_inv, rfl, fun j hj => by
    have : j = 0 := Nat.lt_one_iff.mp hj
    subst this; decide, by decide⟩

/-- The first and the last byte of the block, and the first byte above it. -/
theorem witness_PlatformAddressesReachTheBlockAtBase :
    (Config.base ≤ Config.base ∧ Config.base < Config.base + 0x100) ∧
      (Config.base ≤ Config.base + 0xFF ∧ Config.base + 0xFF < Config.base + 0x100) ∧
        (Config.base + 0x100 < Config.base ∨ Config.base + 0x100 ≤ Config.base + 0x100) := by omega

theorem witness_EmptyFilterContainsNothing :
    ∃ t, exec .config configPending = .next t ∧ t.err = .none := ⟨_, test_config_smallest, rfl⟩

end Sys2Proof.Tests
end

section
/-! PROOFS of the statements about the state (spec/10_state.md). First what the two agents leave unchanged, said once for
each of them, and the accesses that have a meaning; then reset, DROP and the active configuration. -/

namespace Sys2Proof.Machine

/-! ## What each agent leaves unchanged -/

/-- `s` with BUSY = 0 and with the fields a command can write taken from `t`. -/
def State.completedAs (s t : State) : State :=
  { s with
    busy := false, err := t.err, result := t.result, cfgValid := t.cfgValid, hashActive := t.hashActive
    digest := t.digest, cfgK := t.cfgK, cfgO := t.cfgO, cfgMaxc := t.cfgMaxc, itemCount := t.itemCount
    hlen := t.hlen, v := t.v, ka0 := t.ka0, ka1 := t.ka1, cnt := t.cnt }

/-- `t` with the fields that only commands and reset write taken from `s`. -/
def State.withCommandFieldsOf (t s : State) : State :=
  { t with
    result := s.result, cfgValid := s.cfgValid, hashActive := s.hashActive, err := s.err, cfgK := s.cfgK
    cfgO := s.cfgO, cfgMaxc := s.cfgMaxc, itemCount := s.itemCount, hlen := s.hlen, v := s.v, ka0 := s.ka0
    ka1 := s.ka1, cnt := s.cnt }

/-- A command reaches no register that only the host writes, neither DROP nor PEND, and none of the model's own
fields; it ends with BUSY = 0. -/
theorem exec_frame {i : Instr} {s t : State} (h : exec i s = .next t) :
    t = s.completedAs t := by
  cases i with
  | nop => cases h; rfl
  | config => obtain ⟨-, rfl⟩ | ⟨-, rfl⟩ := execConfig_next h <;> rfl
  | hashInit => cases execHashInit_next h; rfl
  | hashBlock => obtain ⟨-, rfl⟩ | ⟨-, rfl⟩ := execHashBlock_next h <;> rfl
  | hashFinal n => obtain ⟨-, rfl⟩ | ⟨-, rfl⟩ := execHashFinal_next h <;> rfl
  | add => obtain ⟨-, rfl⟩ | ⟨-, -, ⟨-, rfl⟩ | ⟨-, rfl⟩⟩ := execAdd_next h <;> rfl
  | remove => obtain ⟨-, rfl⟩ | ⟨-, -, ⟨-, rfl⟩ | ⟨-, rfl⟩⟩ := execRemove_next h <;> rfl
  | contains => obtain ⟨-, rfl⟩ | ⟨-, -, rfl⟩ := execContains_next h <;> rfl

theorem exec_drop {i : Instr} {s t : State} (h : exec i s = .next t) : t.drop = s.drop := by
  rw [exec_frame h]; rfl

/-- The engine's step leaves unchanged what a command does, an illegal word included. -/
theorem engineStep_frame {s t : State} (h : engineStep s = .next t) :
    t = s.completedAs t := by
  obtain ⟨i, -, hi⟩ | ⟨-, rfl⟩ := engineStep_next h
  · exact exec_frame hi
  · rfl

theorem engineStep_drop {s t : State} (h : engineStep s = .next t) : t.drop = s.drop := by
  rw [engineStep_frame h]; rfl

/-- A host write reaches the registers the host can write, DROP, BUSY, PEND and the model's own fields only. -/
theorem writeEffect_frame (off : Nat) (v : Word) (s : State) :
    writeEffect off v s = (writeEffect off v s).withCommandFieldsOf s := by
  obtain ⟨hw, -⟩ | ⟨hw, -⟩ | ⟨hw, -⟩ | ⟨r, hw, -⟩ := writeEffect_cases off v s <;> rw [hw]
  case inr.inr.inr => cases r <;> rfl
  all_goals rfl

/-- A host event other than reset writes nothing that only commands write. -/
theorem hostEvent_frame {e : HostEvent} {s t : State} (h : hostEvent e s = .next t) (he : e ≠ .reset) :
    t = t.withCommandFieldsOf s := by
  obtain ⟨off, -, rfl | ⟨w, rfl⟩⟩ | ⟨off, v, -, rfl⟩ | ⟨-, -, rfl⟩ | ⟨-, -, rfl⟩ | ⟨rfl, -⟩ := hostEvent_next h
  case inr.inl => rw [writeEffect_frame]; rfl
  case inr.inr.inr.inr => exact absurd rfl he
  all_goals rfl

/-! ## Accesses with a meaning -/

/-- An access that R66 gives a meaning is made. -/
theorem checkedAccess_meaningful {off : Nat} (h : off < 0x100 ∧ off % 8 = 0) (f : State → Answer) (s : State) :
    checkedAccess 64 off f s = f s := by
  rw [checkedAccess, accessRefusal_none.mpr ⟨rfl, h⟩]

theorem Reg.offset_meaningful (r : Reg) : r.offset < 0x100 ∧ r.offset % 8 = 0 := by cases r <;> decide

/-- A host write to a register. -/
theorem hostEvent_write_reg (r : Reg) (v : Word) (s : State) :
    hostEvent (.write 64 r.offset v) s = .next (writeEffect r.offset v s).acknowledge :=
  checkedAccess_meaningful r.offset_meaningful _ s

/-- A register other than CNT_DATA reads its value, while BUSY = 0 or where R65 makes the read exact. -/
theorem hostEvent_read_reg {r : Reg} {s : State} (hr : r ≠ .cntData) (hb : s.busy = false ∨ r.exactWhenBusy = true) :
    hostEvent (.read 64 r.offset) s = .next (s.respond (s.regValue r)) := by
  have hfree : (s.busy && !r.exactWhenBusy) = false := by rcases hb with hb | hb <;> simp [hb]
  refine (checkedAccess_meaningful r.offset_meaningful _ s).trans ?_
  simp [regRead, hr, hfree]

/-- A write to STATUS is accepted whatever BUSY is (R31, R64). -/
theorem writeEffect_status (v : Word) (s : State) : writeEffect Reg.status.offset v s = s.writeStatus v := by
  simp [writeEffect]

/-- A write to CMD or an operand register while BUSY = 1 sets DROP and nothing else (R64). -/
theorem writeEffect_dropped {r : Reg} {s : State} (v : Word) (hb : s.busy = true) (hr : r.droppedWhenBusy = true) :
    writeEffect r.offset v s = { s with drop := true } := by
  have hne : r ≠ .status := by rintro rfl; cases hr
  simp [writeEffect, hne, hb, hr]

theorem Reg.mem_all (r : Reg) : r ∈ Reg.all := by cases r <;> decide

/-- The offsets of the registers whose write is dropped while BUSY = 1 (R22, R64). -/
theorem mem_droppedOffsets {off : Nat} :
    off ∈ [0x08, 0x18, 0x20, 0x28, 0x30, 0x38, 0x40, 0x48, 0x78] ↔
      ∃ r : Reg, off = r.offset ∧ r.droppedWhenBusy = true := by
  have hof : ∀ o ∈ [0x08, 0x18, 0x20, 0x28, 0x30, 0x38, 0x40, 0x48, 0x78],
      ∃ r ∈ Reg.all, o = r.offset ∧ r.droppedWhenBusy = true := by decide
  have hto : ∀ r ∈ Reg.all, r.droppedWhenBusy = true →
      r.offset ∈ [0x08, 0x18, 0x20, 0x28, 0x30, 0x38, 0x40, 0x48, 0x78] := by decide
  constructor
  · intro h
    obtain ⟨r, -, hr⟩ := hof off h
    exact ⟨r, hr⟩
  · rintro ⟨r, rfl, hr⟩
    exact hto r r.mem_all hr

/-! ## Reset -/

theorem statusWord_reset : State.reset.statusWord = 0#64 := by decide

/-- Only what R50 leaves unspecified, and the model's own list and draws, can differ from State.reset after a reset. -/
theorem eq_reset_of_reset {s t : State} (h : t = State.reset ∨ hostEvent .reset s = .next t) :
    t = { State.reset with v := t.v, cnt := t.cnt, pend := t.pend, inbox := t.inbox, draws := t.draws } := by
  rcases h with rfl | h
  · rfl
  · cases h; rfl

/-- Settles O17: a state after reset is State.reset but for fields the claim does not speak of, and ID always reads its
constant. -/
theorem resetLeavesTheseValues : Obligations.ResetLeavesTheseValues := by
  intro s t h
  rw [eq_reset_of_reset h]
  exact ⟨statusWord_reset, rfl, rfl, rfl, rfl, rfl, rfl, rfl, rfl, rfl, rfl, rfl, rfl, rfl, rfl, rfl, rfl, rfl, rfl, rfl,
    rfl, rfl, _, hostEvent_read_reg (r := .id) (by decide) (.inr rfl), rfl⟩

/-! ## DROP -/

/-- What a host event can do to DROP: nothing, or R31's three writes of it. -/
theorem hostEvent_drop {e : HostEvent} {s t : State} (h : hostEvent e s = .next t) :
    t.drop = s.drop ∨
      (t.drop = true ∧ s.busy = true ∧ ∃ (r : Reg) (v : Word), e = .write 64 r.offset v ∧ r.droppedWhenBusy = true) ∨
        (∃ v : Word, e = .write 64 Reg.status.offset v ∧ t.drop = (s.drop && !v.getLsbD 4)) ∨
          (e = .reset ∧ t.drop = false) := by
  obtain ⟨off, -, rfl | ⟨w, rfl⟩⟩ | ⟨off, v, rfl, rfl⟩ | ⟨-, -, rfl⟩ | ⟨-, -, rfl⟩ | ⟨rfl, rfl⟩ := hostEvent_next h
  case inr.inl =>
    rw [State.acknowledge_drop]
    obtain ⟨hw, rfl⟩ | ⟨hw, hb, r, rfl, hr⟩ | ⟨hw, -⟩ | ⟨r, hw, -⟩ := writeEffect_cases off v s <;> rw [hw]
    · exact .inr (.inr (.inl ⟨v, rfl, rfl⟩))
    · exact .inr (.inl ⟨rfl, hb, r, v, rfl, hr⟩)
    · exact .inl rfl
    · exact .inl (State.store_drop s r v)
  case inr.inr.inr.inr => exact .inr (.inr (.inr ⟨rfl, rfl⟩))
  all_goals exact .inl rfl

/-- A step that changes DROP is the host's. -/
theorem step_changes_drop {s t : State} (h : step s = .next t) (hd : t.drop ≠ s.drop) :
    ∃ e rest, s.inbox = e :: rest ∧ hostEvent e (s.take rest) = .next t := by
  obtain ⟨-, he⟩ | ⟨e, rest, hin, -, he⟩ | ⟨-, -, rfl⟩ := step_next h
  · exact absurd (engineStep_drop he) hd
  · exact ⟨e, rest, hin, he⟩
  · exact absurd rfl hd

theorem step_sets_drop {s t : State} (h : step s = .next t) (hs : s.drop = false) (ht : t.drop = true) :
    s.busy = true ∧ ∃ (r : Reg) (v : Word) (rest : List HostEvent),
      s.inbox = .write 64 r.offset v :: rest ∧ r.droppedWhenBusy = true := by
  obtain ⟨e, rest, hin, he⟩ := step_changes_drop h (by simp [hs, ht])
  obtain hd | ⟨-, hb, r, v, rfl, hr⟩ | ⟨v, -, hd⟩ | ⟨-, hd⟩ := hostEvent_drop he
  case inr.inl => exact ⟨hb, r, v, rest, hin, hr⟩
  all_goals simp [hs, ht] at hd

theorem step_clears_drop {s t : State} (h : step s = .next t) (hs : s.drop = true) (ht : t.drop = false) :
    ∃ rest, s.inbox = .reset :: rest ∨
      ∃ v : Word, v.getLsbD 4 = true ∧ s.inbox = .write 64 Reg.status.offset v :: rest := by
  obtain ⟨e, rest, hin, he⟩ := step_changes_drop h (by simp [hs, ht])
  obtain hd | ⟨hd, -⟩ | ⟨v, rfl, hd⟩ | ⟨rfl, -⟩ := hostEvent_drop he
  · simp [hs, ht] at hd
  · simp [ht] at hd
  · exact ⟨rest, .inr ⟨v, by simpa [hs, ht] using hd, hin⟩⟩
  · exact ⟨rest, .inl hin⟩

/-- Settles O15: a step that changes DROP is one of the host's accesses R31 names, each of which does what R31 says, and
commands keep DROP. -/
theorem dropIsSticky : Obligations.DropIsSticky := by
  refine ⟨fun s t h => ⟨fun hs ht => ?_, step_clears_drop h⟩, fun s v hv => ?_, fun s off v hb ho => ?_,
    fun s t h => ?_, fun i s t h => exec_drop h⟩
  · obtain ⟨hb, r, v, rest, hin, hr⟩ := step_sets_drop h hs ht
    exact ⟨hb, r.offset, v, rest, hin, mem_droppedOffsets.mpr ⟨r, rfl, hr⟩⟩
  · refine ⟨_, hostEvent_write_reg .status v s, ?_⟩
    simp [writeEffect_status, hv]
  · obtain ⟨r, rfl, hr⟩ := mem_droppedOffsets.mp ho
    refine ⟨_, hostEvent_write_reg r v s, ?_⟩
    simp [writeEffect_dropped v hb hr]
  · rw [eq_reset_of_reset (.inr h)]; rfl

/-! ## The active configuration -/

/-- `t` has the active configuration of `s`: CFG_VALID, the active parameters and the active key (R39, R45). -/
def State.ConfigKept (s t : State) : Prop :=
  t = { t with
        cfgValid := s.cfgValid, cfgK := s.cfgK, cfgO := s.cfgO, cfgMaxc := s.cfgMaxc, ka0 := s.ka0, ka1 := s.ka1 }

/-- The active configuration, field by field. -/
theorem State.configKept_iff {s t : State} :
    s.ConfigKept t ↔ t.cfgValid = s.cfgValid ∧ (t.cfgK = s.cfgK ∧ t.cfgO = s.cfgO ∧ t.cfgMaxc = s.cfgMaxc) ∧
      t.ka0 = s.ka0 ∧ t.ka1 = s.ka1 := by
  cases t
  simp [State.ConfigKept, and_assoc]

/-- A command keeps the active configuration, unless it is a successful CONFIG (R39, R143). -/
theorem exec_config_or_kept {i : Instr} {s t : State} (h : exec i s = .next t) :
    (i = .config ∧ t = s.configure.complete .none) ∨ s.ConfigKept t := by
  cases i with
  | config =>
    obtain ⟨-, rfl⟩ | ⟨-, rfl⟩ := execConfig_next h
    · exact .inr rfl
    · exact .inl ⟨rfl, rfl⟩
  | nop => cases h; exact .inr rfl
  | hashInit => cases execHashInit_next h; exact .inr rfl
  | hashBlock =>
    obtain ⟨-, rfl⟩ | ⟨-, rfl⟩ := execHashBlock_next h <;> exact .inr rfl
  | hashFinal n =>
    obtain ⟨-, rfl⟩ | ⟨-, rfl⟩ := execHashFinal_next h <;> exact .inr rfl
  | add =>
    obtain ⟨-, rfl⟩ | ⟨-, -, ⟨-, rfl⟩ | ⟨-, rfl⟩⟩ := execAdd_next h <;> exact .inr rfl
  | remove =>
    obtain ⟨-, rfl⟩ | ⟨-, -, ⟨-, rfl⟩ | ⟨-, rfl⟩⟩ := execRemove_next h <;> exact .inr rfl
  | contains =>
    obtain ⟨-, rfl⟩ | ⟨-, -, rfl⟩ := execContains_next h <;> exact .inr rfl

/-- A host event other than reset keeps the active configuration. -/
theorem hostEvent_configKept {e : HostEvent} {s t : State} (h : hostEvent e s = .next t) (he : e ≠ .reset) :
    s.ConfigKept t := by
  rw [hostEvent_frame h he]; rfl

/-- Over every step the active configuration is kept, or the step is a successful CONFIG or a reset. -/
theorem step_config_or_reset_or_kept {s t : State} (h : step s = .next t) :
    (s.busy = true ∧ decode s.pend = .ok .config ∧ t = s.configure.complete .none) ∨
      (∃ rest, s.inbox = .reset :: rest ∧ t = (s.take rest).resetBlock) ∨ s.ConfigKept t := by
  obtain ⟨hb, he⟩ | ⟨e, rest, hin, -, he⟩ | ⟨-, -, rfl⟩ := step_next h
  · obtain ⟨i, hd, hi⟩ | ⟨-, rfl⟩ := engineStep_next he
    · obtain ⟨rfl, rfl⟩ | hk := exec_config_or_kept hi
      · exact .inl ⟨hb, hd, rfl⟩
      · exact .inr (.inr hk)
    · exact .inr (.inr rfl)
  · by_cases hr : e = .reset
    · subst hr
      cases he
      exact .inr (.inl ⟨rest, hin, rfl⟩)
    · have hk := hostEvent_configKept he hr
      exact .inr (.inr hk)
  · exact .inr (.inr rfl)

/-- Settles O33: the active parameters are part of the active configuration, which only CONFIG and reset change. -/
theorem activeParametersChangeOnlyAtConfig : Obligations.ActiveParametersChangeOnlyAtConfig := by
  intro s t h
  obtain ⟨hb, hd, rfl⟩ | ⟨rest, hin, rfl⟩ | hk := step_config_or_reset_or_kept h
  · exact .inr (.inl ⟨hb, hd, rfl, rfl, rfl, rfl⟩)
  · exact .inr (.inr ⟨rest, hin, rfl, rfl, rfl⟩)
  · obtain ⟨-, hparams, -⟩ := State.configKept_iff.mp hk
    exact .inl hparams

end Sys2Proof.Machine
end

section
/-! PROOFS of the statements about the host's accesses (spec/20_memory.md R64 to R66). First what an access at an offset
does, said once for a register and once for a reserved offset; the chains of R64 and R65 are read off from that. -/

namespace Sys2Proof.Machine

/-! ## Offsets -/

/-- An offset with a meaning is that of a register, or a reserved one (R22, R67). -/
theorem register_or_reserved {off : Nat} (hoff : off < 0x100 ∧ off % 8 = 0) :
    (∃ r : Reg, off = r.offset) ∨ 0x88 ≤ off := by
  have hreg : ∀ n < 0x11, ∃ r ∈ Reg.all, 8 * n = r.offset := by decide
  by_cases h : 0x88 ≤ off
  · exact .inr h
  · obtain ⟨r, -, hr⟩ := hreg (off / 8) (by omega)
    exact .inl ⟨r, by omega⟩

theorem Reg.offset_injective : Function.Injective Reg.offset := fun r r' h =>
  Option.some.inj (by rw [← r.atOffset_offset, h, r'.atOffset_offset])

/-- The registers at the offsets of R64's busy arm. -/
theorem offset_mem_dropped {r : Reg} :
    r.offset ∈ [0x08, 0x18, 0x20, 0x28, 0x30, 0x38, 0x40, 0x48, 0x78] ↔ r.droppedWhenBusy = true := by
  refine mem_droppedOffsets.trans ⟨?_, fun h => ⟨r, rfl, h⟩⟩
  rintro ⟨r', hr, hd⟩
  rwa [Reg.offset_injective hr]

/-! ## RegWrite -/

theorem writeEffect_reserved {off : Nat} (h : 0x88 ≤ off) (v : Word) (s : State) : writeEffect off v s = s := by
  simp [writeEffect, Reg.atOffset_reserved h]

/-- A write that neither goes to STATUS nor is dropped issues a command or is a plain store (R64). -/
theorem writeEffect_accepted {r : Reg} {s : State} (v : Word) (hr : r ≠ .status)
    (hd : ¬(s.busy = true ∧ r.droppedWhenBusy = true)) :
    writeEffect r.offset v s = if r = .cmd then s.issue v else s.store r v := by
  simp [writeEffect, hr, hd]

/-- Write-one-to-clear, in R64's words: DROP becomes 0 if bit 4 of the value is 1. -/
theorem State.writeStatus_eq (v : Word) (s : State) :
    s.writeStatus v = { s with drop := if v.getLsbD 4 then false else s.drop } := by
  simp only [State.writeStatus]
  cases v.getLsbD 4 <;> simp

/-- Settles O10: the arm of R64's chain is that of the register at the offset, the last one at a reserved offset. -/
theorem regWriteFollowsItsChain : Obligations.RegWriteFollowsItsChain := by
  intro s off v hlt hal
  refine ⟨_, checkedAccess_meaningful ⟨hlt, hal⟩ _ s, ?_⟩
  obtain ⟨r, rfl⟩ | hres := register_or_reserved ⟨hlt, hal⟩
  · by_cases hst : r = .status
    · subst hst
      rw [if_pos (show Reg.status.offset = 0x10 from rfl), writeEffect_status, State.writeStatus_eq]
      rfl
    · have hne : r.offset ≠ 0x10 := fun h => hst (Reg.offset_injective h)
      rw [if_neg hne]
      by_cases hd : s.busy = true ∧ r.droppedWhenBusy = true
      · rw [if_pos ⟨hd.1, offset_mem_dropped.mpr hd.2⟩, writeEffect_dropped v hd.1 hd.2]
        rfl
      · rw [if_neg (mt (And.imp_right offset_mem_dropped.mp) hd), writeEffect_accepted v hst hd]
        cases r with
        | status => contradiction
        | _ => exact rfl
  · have hne : ∀ n < 0x88, off ≠ n := fun n hn => (hn.trans_le hres).ne'
    simp [hne, writeEffect_reserved hres, State.acknowledge]

/-! ## RegRead -/

/-- The value RegRead returns for a register where R65 gives it one: CNT_DATA is the counter CNT_INDEX names while that
is a configured one and 0 otherwise (R43). -/
def State.readValue (r : Reg) (s : State) : Word :=
  match r with
  | .cntData => if s.cfgValid = true ∧ s.cntIndex.toNat < s.window then zext64 (s.cnt.read s.cntIndex.toNat) else 0#64
  | r => s.regValue r

theorem State.readValue_of_ne {r : Reg} (hr : r ≠ .cntData) (s : State) : s.readValue r = s.regValue r := by
  cases r with
  | cntData => contradiction
  | _ => rfl

/-- Under a configuration CONFIG accepts, or none, CNT_DATA is read without a fault (R43, log entry 12). -/
theorem readCntData_eq {s : State} (hcfg : s.cfgValid = true → configOk s.cfgK s.cfgO s.cfgMaxc = true) :
    readCntData s = .next (s.respond (s.readValue .cntData)) := by
  by_cases h : s.cfgValid = true ∧ s.cntIndex.toNat < s.window
  · simp [readCntData, State.readValue, h, hcfg h.left]
  · simp [readCntData, State.readValue, h]

theorem hostEvent_read {off : Nat} (hoff : off < 0x100 ∧ off % 8 = 0) (s : State) :
    hostEvent (.read 64 off) s = regRead off s :=
  checkedAccess_meaningful hoff _ s

theorem hostEvent_read_reserved {off : Nat} (hoff : off < 0x100 ∧ off % 8 = 0) (h : 0x88 ≤ off) (s : State) :
    hostEvent (.read 64 off) s = .next (s.respond 0#64) := by
  rw [hostEvent_read hoff, regRead, Reg.atOffset_reserved h]

/-- A register reads its value while BUSY = 0 or where R65 makes the read exact, CNT_DATA included. -/
theorem hostEvent_read_exact {r : Reg} {s : State}
    (hcfg : s.cfgValid = true → configOk s.cfgK s.cfgO s.cfgMaxc = true)
    (hb : s.busy = false ∨ r.exactWhenBusy = true) :
    hostEvent (.read 64 r.offset) s = .next (s.respond (s.readValue r)) := by
  by_cases hr : r = .cntData
  · subst hr
    have hidle : s.busy = false := hb.resolve_right (by decide)
    rw [hostEvent_read Reg.cntData.offset_meaningful]
    simp [regRead, hidle, readCntData_eq hcfg]
  · rw [State.readValue_of_ne hr, hostEvent_read_reg hr hb]

/-- While BUSY = 1 every other register reads a free value (R65, R73). -/
theorem hostEvent_read_free {r : Reg} {s : State} (hb : ¬(s.busy = false ∨ r.exactWhenBusy = true)) :
    hostEvent (.read 64 r.offset) s = .next s.respondFree := by
  obtain ⟨hbusy, hr⟩ : s.busy = true ∧ r.exactWhenBusy = false := by simpa using hb
  rw [hostEvent_read r.offset_meaningful]
  simp [regRead, hbusy, hr]

/-- RegRead at any offset with a meaning: only the response and the draws change, a register's value is exact while
BUSY = 0 or where R65 says so, and a reserved offset reads 0. -/
theorem hostEvent_read_spec {off : Nat} (hoff : off < 0x100 ∧ off % 8 = 0) {s : State}
    (hcfg : s.cfgValid = true → configOk s.cfgK s.cfgO s.cfgMaxc = true) :
    ∃ t w, hostEvent (.read 64 off) s = .next t ∧ t = { s with rsp := some w, draws := t.draws } ∧
      (∀ r : Reg, off = r.offset → s.busy = false ∨ r.exactWhenBusy = true → w = s.readValue r) ∧
        (0x88 ≤ off → w = 0#64) := by
  obtain ⟨r, rfl⟩ | hres := register_or_reserved hoff
  · have hlt := r.offset_lt
    by_cases hb : s.busy = false ∨ r.exactWhenBusy = true
    · refine ⟨_, _, hostEvent_read_exact hcfg hb, rfl, fun r' h _ => ?_, fun h => by omega⟩
      rw [Reg.offset_injective h]
    · refine ⟨_, _, hostEvent_read_free hb, rfl, fun r' h hb' => ?_, fun h => by omega⟩
      exact absurd (Reg.offset_injective h ▸ hb') hb
  · refine ⟨_, _, hostEvent_read_reserved hoff hres s, rfl, fun r h _ => ?_, fun _ => rfl⟩
    have hlt := r.offset_lt
    omega

/-- Settles O11: each clause is the read of one register, or of a reserved offset. -/
theorem regReadFollowsItsChain : Obligations.RegReadFollowsItsChain := by
  intro s off hlt hal hcfg
  obtain ⟨t, w, hread, hframe, hreg, hres⟩ := hostEvent_read_spec ⟨hlt, hal⟩ hcfg
  have hwo : off ∈ [0x08, 0x18, 0x20] → w = 0#64 := by
    simp only [List.mem_cons, List.not_mem_nil, or_false]
    rintro (h | h | h)
    · exact hreg .cmd h (.inr rfl)
    · exact hreg .key0 h (.inr rfl)
    · exact hreg .key1 h (.inr rfl)
  refine ⟨t, w, hread, hframe, (hreg .id · (.inr rfl)), (hreg .status · (.inr rfl)), hwo, hres, fun hb => ?_⟩
  have hidle : ∀ r : Reg, off = r.offset → w = s.readValue r := fun r h => hreg r h (.inl hb)
  exact ⟨hidle .data, hidle .digest, hidle .paramK, hidle .paramO, hidle .paramMaxc, hidle .cfgK, hidle .cfgO,
    hidle .cfgMaxc, hidle .itemCount, hidle .hlen, hidle .cntIndex, hidle .cntData⟩

/-! ## Accesses without a meaning -/

theorem readCntData_not_refused (s : State) (r : Refusal) : readCntData s ≠ .refused r := by
  unfold readCntData
  split_ifs <;> simp

theorem regRead_not_refused (off : Nat) (s : State) (r : Refusal) : regRead off s ≠ .refused r := by
  unfold regRead
  cases Reg.atOffset off with
  | none => simp
  | some reg =>
    dsimp only
    split_ifs
    · simp
    · exact readCntData_not_refused s r
    · simp

theorem regWrite_not_refused (off : Nat) (v : Word) (s : State) (r : Refusal) : regWrite off v s ≠ .refused r := by
  simp [regWrite]

/-- An access that is never refused itself is refused exactly where R66 gives it no meaning. -/
theorem checkedAccess_refused {f : State → Answer} {s : State} (hf : ∀ r, f s ≠ .refused r) (width off : Nat) :
    (∃ r, checkedAccess width off f s = .refused r) ↔ width ≠ 64 ∨ off % 8 ≠ 0 ∨ 0x100 ≤ off := by
  have hmeaning : accessRefusal width off = none ↔ ¬(width ≠ 64 ∨ off % 8 ≠ 0 ∨ 0x100 ≤ off) := by
    rw [accessRefusal_none]; omega
  unfold checkedAccess
  cases h : accessRefusal width off with
  | none => exact iff_of_false (fun ⟨r, hr⟩ => hf r hr) (hmeaning.mp h)
  | some r => exact iff_of_true ⟨r, rfl⟩ (not_not.mp (mt hmeaning.mpr (by simp [h])))

/-- Settles O12: neither RegRead nor RegWrite is refused by itself, so R66's check alone decides. -/
theorem onlyAlignedWholeAccessesHaveMeaning : Obligations.OnlyAlignedWholeAccessesHaveMeaning :=
  fun s width off v =>
    ⟨checkedAccess_refused (regRead_not_refused off s) width off,
      checkedAccess_refused (regWrite_not_refused off v s) width off⟩

end Sys2Proof.Machine
end

section
/-! PROOFS of the statements about the command word (spec/30_encoding.md R90 to R95). First what the decoder answers, said
once through the two fields a legal word names its command by; the illegal words are those that name none. -/

namespace Sys2Proof.Machine

/-! ## The command a word names -/

/-- OPC of a command's word (R93). -/
def opcOf : Instr → Nat
  | .nop => 0x00
  | .config => 0x01
  | .hashInit => 0x10
  | .hashBlock => 0x11
  | .hashFinal _ => 0x12
  | .add => 0x20
  | .remove => 0x21
  | .contains => 0x22

/-- TLEN of a command's word (R90, R92). -/
def tlenOf : Instr → Nat
  | .hashFinal tlen => tlen
  | _ => 0

/-- The eight opcodes of R93. -/
def opcodes : List Nat := [0x00, 0x01, 0x10, 0x11, 0x12, 0x20, 0x21, 0x22]

/-- R94: a word decodes to the command its fields name, provided RSV is 0. -/
theorem decode_ok_iff {w : Word} {i : Instr} :
    decode w = .ok i ↔ rsvField w = 0 ∧ opcField w = opcOf i ∧ tlenField w = tlenOf i := by
  constructor
  · fun_cases decode w <;> rintro ⟨⟩ <;> simp_all [opcOf, tlenOf]
  · rintro ⟨hrsv, hopc, htlen⟩
    cases i <;> simp [decode, hrsv, hopc, htlen, opcOf, tlenOf]

/-- The pairs of OPC and TLEN that name a command (R93). -/
theorem exists_opcOf_tlenOf {c t : Nat} :
    (∃ i, c = opcOf i ∧ t = tlenOf i) ↔ c ∈ opcodes ∧ (c = 0x12 ∨ t = 0) := by
  constructor
  · rintro ⟨i, rfl, rfl⟩
    cases i <;> simp [opcOf, tlenOf, opcodes]
  · rintro ⟨hc, h12 | rfl⟩
    · exact ⟨.hashFinal t, h12, rfl⟩
    · simp only [opcodes, List.mem_cons, List.not_mem_nil, or_false] at hc
      obtain h | h | h | h | h | h | h | h := hc
      · exact ⟨.nop, h, rfl⟩
      · exact ⟨.config, h, rfl⟩
      · exact ⟨.hashInit, h, rfl⟩
      · exact ⟨.hashBlock, h, rfl⟩
      · exact ⟨.hashFinal 0, h, rfl⟩
      · exact ⟨.add, h, rfl⟩
      · exact ⟨.remove, h, rfl⟩
      · exact ⟨.contains, h, rfl⟩

theorem decode_error_iff_not_ok {w : Word} : (∃ e, decode w = .error e) ↔ ¬∃ i, decode w = .ok i := by
  cases decode w <;> simp

/-- R95's three kinds of illegal word, in the decoder's own fields. -/
theorem decode_error_iff {w : Word} :
    (∃ e, decode w = .error e) ↔
      rsvField w ≠ 0 ∨ opcField w ∉ opcodes ∨ (opcField w ≠ 0x12 ∧ tlenField w ≠ 0) := by
  rw [decode_error_iff_not_ok]
  simp only [decode_ok_iff, exists_and_left, exists_opcOf_tlenOf]
  tauto

/-! ## How many opcodes are unassigned -/

theorem opcodes_nodup : opcodes.Nodup := by decide

theorem opcodes_lt : ∀ c ∈ opcodes, c < 256 := by decide

/-- `n` numbers less those of a list without repetition. -/
theorem countP_range_notMem {n : Nat} {l : List Nat} (hnodup : l.Nodup) (hlt : ∀ c ∈ l, c < n) :
    (List.range n).countP (fun c => decide (c ∉ l)) = n - l.length := by
  have hsub : l.toFinset ⊆ Finset.range n := fun c hc => Finset.mem_range.mpr (hlt c (List.mem_toFinset.mp hc))
  calc (List.range n).countP (fun c => decide (c ∉ l))
      = ((Finset.range n).filter (fun c => c ∉ l)).card := List.countP_eq_length_filter
    _ = (Finset.range n \ l.toFinset).card := by simp only [← Finset.filter_notMem_eq_sdiff, List.mem_toFinset]
    _ = n - l.length := by
      rw [Finset.card_sdiff_of_subset hsub, Finset.card_range, List.toFinset_card_of_nodup hnodup]

/-! ## The fields as bit ranges -/

theorem toNat_extractLsb_opc (w : Word) : (w.extractLsb 7 0).toNat = opcField w := by
  simp [opcField]

theorem toNat_extractLsb_tlen (w : Word) : (w.extractLsb 10 8).toNat = tlenField w := by
  simp [tlenField, Nat.shiftRight_eq_div_pow]

theorem toNat_extractLsb_rsv (w : Word) : (w.extractLsb 63 11).toNat = rsvField w := by
  have hw := w.isLt
  simp only [BitVec.extractLsb_toNat, Nat.shiftRight_eq_div_pow, rsvField]
  omega

/-- Only the word 0 has every field 0 (R95). -/
theorem eq_zero_iff_fields {w : Word} : w = 0#64 ↔ rsvField w = 0 ∧ opcField w = 0 ∧ tlenField w = 0 := by
  rw [← BitVec.toNat_inj]
  simp only [rsvField, opcField, tlenField, BitVec.toNat_ofNat]
  omega

/-! ## Illegal words -/

/-- R181: with an illegal word pending the engine writes ILLEGAL_COMMAND, clears BUSY and does nothing else. -/
theorem engineStep_illegal {s : State} (h : ∃ e, decode s.pend = .error e) :
    engineStep s = .next (s.complete .illegalCommand) := by
  obtain ⟨e, he⟩ := h
  simp only [engineStep, he, completeIllegal, raiseError]

/-- Settles O3: the decoder's fields are the bit ranges R95 names, and NOP is the command of OPC = 0 and TLEN = 0. -/
theorem illegalWordsAreExactlyThese : Obligations.IllegalWordsAreExactlyThese := by
  refine ⟨fun w => ?_, countP_range_notMem opcodes_nodup opcodes_lt, fun w => ?_, fun s => engineStep_illegal⟩
  · simp [decode_error_iff, opcodes, ← BitVec.toNat_inj, toNat_extractLsb_opc, toNat_extractLsb_tlen,
      toNat_extractLsb_rsv, -BitVec.extractLsb_toNat]
  · exact decode_ok_iff.trans eq_zero_iff_fields.symm

end Sys2Proof.Machine
end

section
/-! PROOFS of the statements about HASH_BLOCK and HASH_FINAL (spec/40_siphash.md R120, R121). First the padding block as a
number and the word of HASH_FINAL; the rest is the gate and the datapath's own definitions. -/

namespace Sys2Proof.Machine

/-! ## The padding block -/

/-- R121's mask keeps the remainder modulo 2^(8n). -/
theorem tailOf_toNat (data : Word) {n : Nat} (hn : n ≤ 8) : (tailOf data n).toNat = data.toNat % 2 ^ (8 * n) := by
  have hmask : 2 ^ (8 * n) - 1 < 2 ^ 64 :=
    (Nat.sub_lt (by positivity) one_pos).trans_le (Nat.pow_le_pow_right two_pos (by omega))
  rw [tailOf, BitVec.toNat_and, BitVec.toNat_ofNat, Nat.mod_eq_of_lt hmask, Nat.and_two_pow_sub_one_eq_mod]

/-- A tail of at most seven bytes lies below the length byte. -/
theorem tailOf_lt (data : Word) {n : Nat} (hn : n < 8) : (tailOf data n).toNat < 2 ^ 56 := by
  rw [tailOf_toNat data hn.le]
  exact (Nat.mod_lt _ (by positivity)).trans_le (Nat.pow_le_pow_right two_pos (by omega))

/-- The length byte and the tail share no bit, so R121's `|` is a sum. -/
theorem padBlock_toNat (len : Word) {tail : Word} (h : tail.toNat < 2 ^ 56) :
    (padBlock len tail).toNat = len.toNat % 256 * 2 ^ 56 + tail.toNat := by
  have hbyte : len.toNat % 256 < 256 := Nat.mod_lt _ (by norm_num)
  have hhigh : (((len.setWidth 8).setWidth 64 : Word) <<< 56).toNat = (len.toNat % 256) <<< 56 := by
    simp only [BitVec.toNat_shiftLeft, BitVec.toNat_setWidth, Nat.shiftLeft_eq]
    omega
  rw [padBlock, BitVec.toNat_or, hhigh, ← Nat.shiftLeft_add_eq_or_of_lt h, Nat.shiftLeft_eq]

/-- The block HASH_FINAL n absorbs (R121): the whole length modulo 256, then the low n bytes of DATA. -/
theorem padBlock_tailOf (hlen data : Word) {n : Nat} (hn : n < 8) :
    padBlock (hlen + BitVec.ofNat 64 n) (tailOf data n) =
      BitVec.ofNat 64 ((hlen.toNat + n) % 256 * 2 ^ 56 + data.toNat % 2 ^ (8 * n)) := by
  have htail := tailOf_lt data hn
  have hpad := padBlock_toNat (hlen + BitVec.ofNat 64 n) htail
  rw [tailOf_toNat data hn.le] at htail hpad
  apply BitVec.eq_of_toNat_eq
  rw [hpad, BitVec.toNat_add, BitVec.toNat_ofNat, BitVec.toNat_ofNat]
  omega

/-! ## The word of HASH_FINAL -/

/-- R93's value 0x12 + n * 0x100 has RSV = 0, OPC = 0x12 and TLEN = n. -/
theorem decode_encode_hashFinal {n : Nat} (hn : n < 8) : decode (encode (.hashFinal n)) = .ok (.hashFinal n) := by
  have hw : (encode (.hashFinal n)).toNat = 0x12 + n * 0x100 := by
    simp only [encode, BitVec.toNat_ofNat]; omega
  simp only [decode_ok_iff, rsvField, opcField, tlenField, hw, opcOf, tlenOf]
  omega

/-! ## The two commands behind their gate -/

/-- Settles O23: the gate decides, and R115's Compress is its two SipRounds by definition. -/
theorem hashBlockAbsorbsOneBlock : Obligations.HashBlockAbsorbsOneBlock :=
  ⟨decode_ok_iff.mpr (by decide), fun _ => ⟨hashGate_active, hashGate_inactive⟩⟩

/-- Settles O24: behind the gate the state words are those of R115 and R116 run on the padding block, which is R121's P. -/
theorem hashFinalWritesTheDigest : Obligations.HashFinalWritesTheDigest := by
  intro s n hn
  refine ⟨decode_encode_hashFinal hn, fun hactive => ?_, hashGate_inactive⟩
  refine ⟨(s.finalizeHash n).complete .none, hashGate_active hactive, rfl, ?_, rfl⟩
  rw [State.complete_v, State.finalizeHash_v, padBlock_tailOf s.hlen s.data hn]
  rfl

end Sys2Proof.Machine
end

section
/-! PROOFS of the statements about CONFIG, ADD and CONTAINS (spec/41_filter.md R142, R143, R150, R156). First the
positions of a digest, which lie in disjoint segments and so are distinct (R148); then what each command answers, said once
for each of its outcomes. -/

namespace Sys2Proof.Machine

/-! ## The positions are distinct -/

/-- R148: the i-th position lies in the i-th segment of `o` counters. -/
theorem position_div (h : Word) {o : Nat} (ho : 1 ≤ o) (i : Nat) : position h o i / o = i := by
  have hslot : slot h o i < o := Nat.mod_lt _ ho
  rw [position, Nat.add_mul_div_right _ _ ho, Nat.div_eq_of_lt hslot, Nat.zero_add]

theorem position_injective (h : Word) {o : Nat} (ho : 1 ≤ o) : Function.Injective (position h o) :=
  Function.LeftInverse.injective (g := (· / o)) (position_div h ho)

/-- R148: no counter is named twice. -/
theorem positions_nodup (h : Word) (k : Nat) {o : Nat} (ho : 1 ≤ o) : (positions h k o).Nodup :=
  List.nodup_range.map (position_injective h ho)

/-! ## CONFIG -/

theorem execConfig_valid {s : State} (h : configOk s.paramK s.paramO s.paramMaxc = true) :
    execConfig s = .next (s.configure.complete .none) := if_pos h

theorem execConfig_invalid {s : State} (h : ¬configOk s.paramK s.paramO s.paramMaxc = true) :
    execConfig s = .next (s.complete .invalidConfiguration) := if_neg h

/-- Settles O21: R142's bounds are cfg_ok, and clearing below k * o is the only change of the counters. -/
theorem configBuildsAnEmptyFilter : Obligations.ConfigBuildsAnEmptyFilter := by
  refine ⟨decode_ok_iff.mpr (by decide), fun s => ⟨fun hok => ?_, fun hbad => ?_⟩⟩
  · exact ⟨_, execConfig_valid (configOk_iff.mpr hok), rfl, Memory.read_clearBelow s.cnt _⟩
  · exact execConfig_invalid (mt configOk_iff.mp hbad)

/-! ## ADD -/

/-- The writes of a successful ADD (R150). -/
def State.addItem (s : State) : State :=
  { s with cnt := s.cnt.modifyAll (fun c => c + 1#8) s.digestPositions, itemCount := s.itemCount + 1#64 }

@[simp] theorem State.addItem_cnt (s : State) :
    s.addItem.cnt = s.cnt.modifyAll (fun c => c + 1#8) s.digestPositions := rfl

theorem addEffect_full {s : State} (h : ∃ p ∈ s.digestPositions, s.cfgMaxc.toNat ≤ (s.cnt.read p).toNat) :
    addEffect s = .next (s.complete .counterOverflow) := if_pos (by simpa using h)

theorem addEffect_room {s : State} (h : ∀ p ∈ s.digestPositions, (s.cnt.read p).toNat < s.cfgMaxc.toNat) :
    addEffect s = .next (s.addItem.complete .none) := if_neg (by simpa using h)

/-- R150's loop counts each position once, because the positions are distinct, and wraps no counter, because each holds
less than max_count, which is at most 255. -/
theorem toNat_read_addItem {s : State} (hwf : s.cnt.wf = true) (hok : configOk s.cfgK s.cfgO s.cfgMaxc = true)
    (hroom : ∀ p ∈ s.digestPositions, (s.cnt.read p).toNat < s.cfgMaxc.toNat) (j : Nat) :
    (s.addItem.cnt.read j).toNat = (s.cnt.read j).toNat + if j ∈ s.digestPositions then 1 else 0 := by
  obtain ⟨-, ho, -, -, hmaxc⟩ := configOk_iff.mp hok
  have hnodup : s.digestPositions.Nodup := positions_nodup _ _ ho
  rw [State.addItem_cnt, Memory.read_modifyAll hwf _ hnodup]
  by_cases hj : j ∈ s.digestPositions
  · have hlt : (s.cnt.read j).toNat < 255 := (hroom j hj).trans_le hmaxc
    simp only [hj, if_true, BitVec.toNat_add, BitVec.toNat_ofNat]
    omega
  · simp only [hj, if_false, Nat.add_zero]

/-- Settles O25: the gate and the test for a full counter decide, and only a successful ADD writes. -/
theorem addCountsAllPositionsOrNone : Obligations.AddCountsAllPositionsOrNone := by
  refine ⟨decode_ok_iff.mpr (by decide), fun s hwf hcfg => ?_⟩
  refine ⟨filterGate_unconfigured, fun hv hfull => ?_, fun hv hroom => ?_⟩
  · exact (filterGate_configured hv (hcfg hv)).trans (addEffect_full hfull)
  · exact ⟨_, (filterGate_configured hv (hcfg hv)).trans (addEffect_room hroom), rfl,
      toNat_read_addItem hwf (hcfg hv) hroom⟩

/-! ## CONTAINS -/

/-- The bit CONTAINS computes (R156) is the test of every position of the digest. -/
theorem all_nonzero_iff {s : State} :
    (s.digestPositions.all fun p => s.cnt.read p != 0#8) = true ↔
      ∀ p ∈ s.digestPositions, s.cnt.read p ≠ 0#8 := by
  simp only [List.all_eq_true, bne_iff_ne]

/-- Settles O27: behind the gate RESULT is the only field written besides ERR and BUSY. -/
theorem containsTestsEveryPosition : Obligations.ContainsTestsEveryPosition := by
  refine ⟨decode_ok_iff.mpr (by decide), fun s hcfg => ⟨filterGate_unconfigured, fun hv => ?_⟩⟩
  exact ⟨_, filterGate_configured hv (hcfg hv), rfl, all_nonzero_iff⟩

end Sys2Proof.Machine
end

section
/-! PROOFS of the statement about NOP (spec/42_control.md R180). -/

namespace Sys2Proof.Machine

/-- A NOP issued while BUSY = 1 is dropped like any other command write (R180, R64). -/
theorem hostEvent_write_cmd_dropped {s : State} (v : Word) (hb : s.busy = true) :
    hostEvent (.write 64 Reg.cmd.offset v) s = .next { s with drop := true, rsp := none } := by
  rw [hostEvent_write_reg .cmd v s, writeEffect_dropped v hb rfl]
  rfl

/-- NOP's whole effect is its completion with NONE (R180). -/
theorem exec_nop (s : State) : exec .nop s = .next (s.complete .none) := rfl

/-- Settles O20: NOP is the command of the word 0, its completion is all it does, and any command write is dropped while
BUSY = 1. -/
theorem nopOnlyCompletes : Obligations.NopOnlyCompletes :=
  ⟨decode_ok_iff.mpr (by decide), exec_nop, fun _ => hostEvent_write_cmd_dropped _⟩

end Sys2Proof.Machine
end

section
/-! PROOFS of the statements about errors and the key (spec/60_exceptions.md R190, R191, R200). First the errors: what a
command that raises one leaves, and why it raised it, said once for all commands. Then the key: replacing it changes
neither what an access or a command decides nor what it writes elsewhere, DIGEST excepted. -/

namespace Sys2Proof.Machine

/-! ## What raises which code -/

/-- R190's last two columns: command `i` raises the code in state `s`, and the cause it names is there. NONE is no
error, and ILLEGAL_COMMAND is no command's. -/
def ErrCode.RaisedBy (i : Instr) (s : State) : ErrCode → Prop
  | .none | .illegalCommand => False
  | .invalidConfiguration => i = .config ∧ configOk s.paramK s.paramO s.paramMaxc = false
  | .counterOverflow => i = .add ∧ ∃ p ∈ s.digestPositions, s.cfgMaxc.toNat ≤ (s.cnt.read p).toNat
  | .counterUnderflow => i = .remove ∧ ∃ p ∈ s.digestPositions, s.cnt.read p = 0#8
  | .notConfigured => (i = .add ∨ i = .remove ∨ i = .contains) ∧ s.cfgValid = false
  | .noActiveHash => (i = .hashBlock ∨ ∃ n, i = .hashFinal n) ∧ s.hashActive = false

/-- A command ends with NONE, or it raises a code whose cause is there and is completed by it with no other effect. -/
theorem exec_succeeds_or_raises {i : Instr} {s t : State} (h : exec i s = .next t) :
    t.err = .none ∨ ∃ c : ErrCode, c.RaisedBy i s ∧ t = s.complete c := by
  cases i with
  | nop => cases h; exact .inl rfl
  | config =>
    obtain ⟨hbad, rfl⟩ | ⟨-, rfl⟩ := execConfig_next h
    · exact .inr ⟨.invalidConfiguration, ⟨rfl, hbad⟩, rfl⟩
    · exact .inl rfl
  | hashInit => cases execHashInit_next h; exact .inl rfl
  | hashBlock =>
    obtain ⟨hoff, rfl⟩ | ⟨-, rfl⟩ := execHashBlock_next h
    · exact .inr ⟨.noActiveHash, ⟨.inl rfl, hoff⟩, rfl⟩
    · exact .inl rfl
  | hashFinal n =>
    obtain ⟨hoff, rfl⟩ | ⟨-, rfl⟩ := execHashFinal_next h
    · exact .inr ⟨.noActiveHash, ⟨.inr ⟨n, rfl⟩, hoff⟩, rfl⟩
    · exact .inl rfl
  | add =>
    obtain ⟨hv, rfl⟩ | ⟨-, -, ⟨hfull, rfl⟩ | ⟨-, rfl⟩⟩ := execAdd_next h
    · exact .inr ⟨.notConfigured, ⟨.inl rfl, hv⟩, rfl⟩
    · exact .inr ⟨.counterOverflow, ⟨rfl, hfull⟩, rfl⟩
    · exact .inl rfl
  | remove =>
    obtain ⟨hv, rfl⟩ | ⟨-, -, ⟨hempty, rfl⟩ | ⟨-, rfl⟩⟩ := execRemove_next h
    · exact .inr ⟨.notConfigured, ⟨.inr (.inl rfl), hv⟩, rfl⟩
    · exact .inr ⟨.counterUnderflow, ⟨rfl, hempty⟩, rfl⟩
    · exact .inl rfl
  | contains =>
    obtain ⟨hv, rfl⟩ | ⟨-, -, rfl⟩ := execContains_next h
    · exact .inr ⟨.notConfigured, ⟨.inr (.inr rfl), hv⟩, rfl⟩
    · exact .inl rfl

/-- A command ends with an error only where R190's table says so. -/
theorem exec_raisedBy {i : Instr} {s t : State} {c : ErrCode} (h : exec i s = .next t) (hc : c ≠ .none)
    (he : t.err = c) : c.RaisedBy i s := by
  obtain hnone | ⟨c', hraise, rfl⟩ := exec_succeeds_or_raises h
  · exact absurd (he.symm.trans hnone) hc
  · rwa [← he]

/-- No command raises ILLEGAL_COMMAND. -/
theorem exec_not_illegal {i : Instr} {s t : State} (h : exec i s = .next t) : t.err ≠ .illegalCommand :=
  exec_raisedBy h (by decide)

/-! ## Errors are precise -/

/-- R191: an error of a command changes nothing but ERR and BUSY. -/
theorem exec_error_precise {i : Instr} {s t : State} (h : exec i s = .next t) (he : t.err ≠ .none) :
    t = s.complete t.err := by
  obtain hnone | ⟨c, -, rfl⟩ := exec_succeeds_or_raises h
  · exact absurd hnone he
  · rfl

/-- R191 for the engine's step, an illegal word included. -/
theorem engineStep_error_precise {s t : State} (h : engineStep s = .next t) (he : t.err ≠ .none) :
    t = s.complete t.err := by
  obtain ⟨i, -, hi⟩ | ⟨-, rfl⟩ := engineStep_next h
  · exact exec_error_precise hi he
  · rfl

/-- Settles O29: an error is the completion with its code and nothing else, whoever raises it. -/
theorem errorsChangeNothingElse : Obligations.ErrorsChangeNothingElse :=
  ⟨fun _ _ _ => exec_error_precise, fun _ _ => engineStep_error_precise⟩

/-! ## The completion codes -/

/-- The codes 7 to 15 are none of the seven (R190). -/
theorem ErrCode.code_lt (e : ErrCode) : e.code.toNat < 7 := by cases e <;> decide

/-- The engine ends with ILLEGAL_COMMAND exactly on a word that does not decode (R94, R190). -/
theorem engineStep_illegal_iff {s t : State} (h : engineStep s = .next t) :
    t.err = .illegalCommand ↔ ∃ e, decode s.pend = .error e := by
  obtain ⟨i, hd, hi⟩ | ⟨hbad, rfl⟩ := engineStep_next h
  · exact iff_of_false (exec_not_illegal hi) (by simp [hd])
  · exact iff_of_true rfl hbad

/-- Settles O28: the clauses are the rows of R190's table, and what an error leaves is R191's. -/
theorem errorCodesAndWhoRaisesThem : Obligations.ErrorCodesAndWhoRaisesThem := by
  refine ⟨⟨rfl, rfl, rfl, rfl, rfl, rfl, rfl, ErrCode.code_lt⟩,
    fun s t h => ⟨engineStep_illegal_iff h, engineStep_error_precise h⟩, fun i s t h => ?_⟩
  have hcause {c : ErrCode} (hc : c ≠ .none) (he : t.err = c) : c.RaisedBy i s := exec_raisedBy h hc he
  exact ⟨hcause (by decide), hcause (by decide), hcause (by decide), hcause (by decide), hcause (by decide),
    exec_not_illegal h⟩

/-! ## States that differ only in the key -/

/-- `s` with the staged key, the active key and the state words taken from `t`. -/
def State.withKeyOf (s t : State) : State :=
  { s with key0 := t.key0, key1 := t.key1, ka0 := t.ka0, ka1 := t.ka1, v := t.v }

theorem State.SameButKey.eq_withKeyOf {s t : State} (h : s.SameButKey t) : t = s.withKeyOf t := h

/-- The host sees no difference between two such states in the response. -/
theorem State.SameButKey.rsp_eq {s t : State} (h : s.SameButKey t) : t.rsp = s.rsp := by rw [h.eq_withKeyOf]; rfl

theorem State.SameButKey.digest_eq {s t : State} (h : s.SameButKey t) : t.digest = s.digest := by
  rw [h.eq_withKeyOf]; rfl

theorem State.SameButKey.acknowledge {s t : State} (h : s.SameButKey t) : s.acknowledge.SameButKey t.acknowledge := by
  rw [h.eq_withKeyOf]; rfl

/-- `t` is `s` but for the key and for DIGEST, which only the hash output may set apart. -/
def State.SameButKeyAndDigest (s t : State) : Prop := State.SameButKey { s with digest := t.digest } t

theorem State.SameButKey.butDigest {s t : State} (h : s.SameButKey t) : s.SameButKeyAndDigest t := by
  rw [h.eq_withKeyOf]; rfl

/-! ## Answers that are related -/

/-- When the first answer is a next state, the second is one too and stands in the relation `R` to it. -/
def AnswersRelated (R : State → State → Prop) (a b : Answer) : Prop :=
  ∀ s', a = .next s' → ∃ t', b = .next t' ∧ R s' t'

theorem AnswersRelated.next {R : State → State → Prop} {s t : State} (h : R s t) :
    AnswersRelated R (.next s) (.next t) := by
  rintro _ ⟨⟩
  exact ⟨t, rfl, h⟩

theorem AnswersRelated.fault {R : State → State → Prop} {f : Fault} {b : Answer} :
    AnswersRelated R (.fault f) b := nofun

theorem AnswersRelated.refused {R : State → State → Prop} {r : Refusal} {b : Answer} :
    AnswersRelated R (.refused r) b := nofun

/-- Two meanings that make the same decision are related when their branches are. -/
theorem AnswersRelated.ite {R : State → State → Prop} {c : Prop} [Decidable c] {a a' b b' : Answer}
    (h : AnswersRelated R a a') (h' : AnswersRelated R b b') :
    AnswersRelated R (if c then a else b) (if c then a' else b') := by
  split_ifs
  · exact h
  · exact h'

theorem AnswersRelated.mono {R S : State → State → Prop} {a b : Answer} (hRS : ∀ s t, R s t → S s t)
    (h : AnswersRelated R a b) : AnswersRelated S a b := fun s' ha =>
  (h s' ha).imp fun t' ⟨hb, hr⟩ => ⟨hb, hRS s' t' hr⟩

/-! ## The host's accesses do not depend on the key -/

/-- The readable value of no register holds the key: KEY0 and KEY1 read 0 (R23, R200). -/
theorem State.regValue_withKeyOf (r : Reg) (s t : State) : (s.withKeyOf t).regValue r = s.regValue r := by
  cases r <;> rfl

theorem readCntData_withKeyOf (s t : State) :
    AnswersRelated State.SameButKey (readCntData s) (readCntData (s.withKeyOf t)) :=
  .ite (.ite (.next rfl) .fault) (.next rfl)

theorem regRead_withKeyOf (off : Nat) (s t : State) :
    AnswersRelated State.SameButKey (regRead off s) (regRead off (s.withKeyOf t)) := by
  unfold regRead
  cases Reg.atOffset off with
  | none => exact .next rfl
  | some r =>
    refine .ite (.next rfl) (.ite (readCntData_withKeyOf s t) (.next ?_))
    rw [State.regValue_withKeyOf]
    rfl

theorem State.store_withKeyOf (r : Reg) (v : Word) (s t : State) :
    (s.store r v).SameButKey ((s.withKeyOf t).store r v) := by
  cases r <;> rfl

/-- What a write does is decided by the offset and BUSY alone. -/
theorem writeEffect_withKeyOf (off : Nat) (v : Word) (s t : State) :
    (writeEffect off v s).SameButKey (writeEffect off v (s.withKeyOf t)) := by
  have hbusy : (s.withKeyOf t).busy = s.busy := rfl
  simp only [writeEffect, hbusy]
  cases Reg.atOffset off with
  | none => rfl
  | some r =>
    dsimp only
    split_ifs
    case neg => exact State.store_withKeyOf r v s t
    all_goals rfl

theorem checkedAccess_related {R : State → State → Prop} {f : State → Answer} {s t : State} (width off : Nat)
    (h : AnswersRelated R (f s) (f t)) :
    AnswersRelated R (checkedAccess width off f s) (checkedAccess width off f t) := by
  unfold checkedAccess
  cases accessRefusal width off with
  | none => exact h
  | some r => exact .refused

theorem pollStatus_withKeyOf (s t : State) :
    AnswersRelated State.SameButKey (pollStatus s) (pollStatus (s.withKeyOf t)) := by
  have hbusy : (s.withKeyOf t).busy = s.busy := rfl
  refine .next ?_
  rw [hbusy]
  split_ifs <;> rfl

theorem hostEvent_withKeyOf (e : HostEvent) (s t : State) :
    AnswersRelated State.SameButKey (hostEvent e s) (hostEvent e (s.withKeyOf t)) := by
  cases e with
  | read width off => exact checkedAccess_related width off (regRead_withKeyOf off s t)
  | write width off v => exact checkedAccess_related width off (.next (writeEffect_withKeyOf off v s t).acknowledge)
  | poll => exact pollStatus_withKeyOf s t
  | reset => exact .next rfl

/-! ## The commands do not depend on the key -/

/-- The gate of the filter commands reads the active parameters only. -/
theorem filterGate_withKeyOf {f : State → Answer} {s t : State}
    (h : AnswersRelated State.SameButKey (f s) (f (s.withKeyOf t))) :
    AnswersRelated State.SameButKey (filterGate f s) (filterGate f (s.withKeyOf t)) :=
  .ite (.ite h .fault) (.next rfl)

/-- Every command but HASH_FINAL writes nothing that depends on the key, apart from the key and the state words. -/
theorem exec_withKeyOf {i : Instr} (hi : ∀ n, i ≠ .hashFinal n) (s t : State) :
    AnswersRelated State.SameButKey (exec i s) (exec i (s.withKeyOf t)) := by
  cases i with
  | nop => exact .next rfl
  | config => exact .ite (.next rfl) (.next rfl)
  | hashInit => exact .next rfl
  | hashBlock => exact .ite (.next rfl) (.next rfl)
  | hashFinal n => exact absurd rfl (hi n)
  | add => exact filterGate_withKeyOf (.ite (.next rfl) (.next rfl))
  | remove => exact filterGate_withKeyOf (.ite (.next rfl) (.next rfl))
  | contains => exact filterGate_withKeyOf (.next rfl)

/-- HASH_FINAL writes DIGEST from the state words, and nothing else that depends on the key (R121, R200). -/
theorem execHashFinal_withKeyOf (n : Nat) (s t : State) :
    AnswersRelated State.SameButKeyAndDigest (execHashFinal n s) (execHashFinal n (s.withKeyOf t)) :=
  .ite (.next rfl) (.next rfl)

/-! ## The key is unreadable -/

/-- R200 for the host's accesses. -/
theorem hostEvent_sameButKey {s t : State} (h : s.SameButKey t) (e : HostEvent) :
    AnswersRelated State.SameButKey (hostEvent e s) (hostEvent e t) := by
  rw [h.eq_withKeyOf]
  exact hostEvent_withKeyOf e s t

/-- R200 for the commands, with DIGEST as the only difference HASH_FINAL can make. -/
theorem exec_sameButKey {s t : State} (h : s.SameButKey t) (i : Instr) :
    AnswersRelated (fun s' t' => s'.SameButKeyAndDigest t' ∧ ((∀ n, i ≠ .hashFinal n) → t'.digest = s'.digest))
      (exec i s) (exec i t) := by
  rw [h.eq_withKeyOf]
  by_cases hi : ∃ n, i = .hashFinal n
  · obtain ⟨n, rfl⟩ := hi
    exact (execHashFinal_withKeyOf n s t).mono fun _ _ hr => ⟨hr, fun hne => absurd rfl (hne n)⟩
  · exact (exec_withKeyOf (not_exists.mp hi) s t).mono fun _ _ hr => ⟨hr.butDigest, fun _ => hr.digest_eq⟩

/-- Settles O16: KEY0 and KEY1 are write-only, and replacing the key changes no answer. -/
theorem keyIsUnreadable : Obligations.KeyIsUnreadable := by
  refine ⟨fun s => ⟨?_, ?_⟩, fun s t h => ⟨fun e => ?_, exec_sameButKey h⟩⟩
  · exact ⟨_, hostEvent_read_reg (r := .key0) (by decide) (.inr rfl), rfl⟩
  · exact ⟨_, hostEvent_read_reg (r := .key1) (by decide) (.inr rfl), rfl⟩
  · exact (hostEvent_sameButKey h e).mono fun _ _ hr => ⟨hr.rsp_eq, hr⟩

end Sys2Proof.Machine
end

section
/-! PROOFS of the statements about the encoder (spec/30_encoding.md R90 to R95). A word is the sum of its three fields,
so the two fields a command names, with RSV = 0, are the same as its encoding. -/

namespace Sys2Proof.Machine

/-- The three fields make up the word (R90). -/
theorem fields_eq_iff {w : Word} {c t : Nat} (hc : c < 2 ^ 8) :
    rsvField w = 0 ∧ opcField w = c ∧ tlenField w = t ↔ t < 8 ∧ w.toNat = c + t * 0x100 := by
  simp only [rsvField, opcField, tlenField]
  omega

theorem opcOf_lt (i : Instr) : opcOf i < 2 ^ 8 := by cases i <;> simp [opcOf]

/-- Only HASH_FINAL can be ill-formed: every other command has TLEN = 0 (R90, R92). -/
theorem wellFormed_iff {i : Instr} : WellFormed i ↔ tlenOf i < 8 := by
  cases i <;> simp [WellFormed, Instr.wf, tlenOf]

/-- R93's command values in terms of OPC and TLEN. -/
theorem toNat_encode {i : Instr} (h : tlenOf i < 8) : (encode i).toNat = opcOf i + tlenOf i * 0x100 := by
  cases i with
  | hashFinal n =>
    simp only [tlenOf] at h
    simp only [encode, opcOf, tlenOf, BitVec.toNat_ofNat]
    omega
  | _ => rfl

/-- Settles O2: both sides say that the word is the sum of the command's OPC and TLEN fields. -/
theorem decodeAgreesWithEncode : Obligations.DecodeAgreesWithEncode := by
  intro w i
  rw [decode_ok_iff, fields_eq_iff (opcOf_lt i), wellFormed_iff]
  refine and_congr_right fun hlt => ?_
  rw [← toNat_encode hlt, BitVec.toNat_inj, eq_comm]

/-- Settles O1: each word of R93's table has the fields of its command. -/
theorem tableWordsDecode : Obligations.TableWordsDecode :=
  ⟨decode_ok_iff.mpr (by decide), decode_ok_iff.mpr (by decide), decode_ok_iff.mpr (by decide),
    decode_ok_iff.mpr (by decide), decode_ok_iff.mpr (by decide), decode_ok_iff.mpr (by decide),
    decode_ok_iff.mpr (by decide), decode_ok_iff.mpr (by decide), decode_ok_iff.mpr (by decide)⟩

end Sys2Proof.Machine
end

section
/-! PROOFS of the statements about positions (spec/41_filter.md R147 to R149). -/

namespace Sys2Proof.Machine

/-! ## Segments -/

theorem slot_lt (h : Word) {o : Nat} (ho : 1 ≤ o) (i : Nat) : slot h o i < o := Nat.mod_lt _ ho

/-- R148: position i lies in the segment [i * o, (i + 1) * o). -/
theorem position_mem_segment (h : Word) {o : Nat} (ho : 1 ≤ o) (i : Nat) :
    i * o ≤ position h o i ∧ position h o i < (i + 1) * o := by
  have hslot := slot_lt h ho i
  rw [position, Nat.succ_mul]
  omega

/-- R148: k segments of o counters end at k * o. -/
theorem position_lt (h : Word) {k o i : Nat} (ho : 1 ≤ o) (hi : i < k) : position h o i < k * o :=
  (position_mem_segment h ho i).right.trans_le (Nat.mul_le_mul_right o hi)

theorem lt_of_mem_positions {h : Word} {k o p : Nat} (ho : 1 ≤ o) (hp : p ∈ positions h k o) : p < k * o := by
  obtain ⟨i, hi, rfl⟩ := mem_positions.mp hp
  exact position_lt h ho hi

/-- Settles O40: the segments are disjoint and end at k * o. -/
theorem positionsLieInTheirSegments : Obligations.PositionsLieInTheirSegments := fun h k _ ho =>
  ⟨fun i _ => position_mem_segment h ho i, positions_nodup h k ho, fun _ => lt_of_mem_positions ho⟩

/-! ## Narrow adders -/

/-- R149's recurrence follows h1 + i * h2 modulo o. -/
theorem slotIncremental_eq_slot (h : Word) (o i : Nat) : slotIncremental h o i = slot h o i := by
  induction i with
  | zero => simp [slotIncremental, slot]
  | succ i ih =>
    rw [slotIncremental, ih]
    unfold slot
    rw [← Nat.add_mod, Nat.add_assoc, ← Nat.succ_mul]

/-- Settles O41: the slots agree, and the sum before its reduction adds two numbers below o. -/
theorem incrementalSlotsAreExact : Obligations.IncrementalSlotsAreExact := by
  intro h o i ho
  have hslot := slot_lt h ho i
  have hstep : lowHalf h % o < o := Nat.mod_lt _ ho
  have heq := slotIncremental_eq_slot h o i
  exact ⟨heq, by omega⟩

/-! ## 64-bit arithmetic -/

theorem toNat_highHalf (h : Word) : (h >>> 32).toNat = highHalf h := by
  simp [highHalf, Nat.shiftRight_eq_div_pow]

theorem toNat_lowHalf (h : Word) : (h &&& 0xffffffff#64).toNat = lowHalf h := by
  rw [BitVec.toNat_and, show (0xffffffff#64 : Word).toNat = 2 ^ 32 - 1 from rfl, Nat.and_two_pow_sub_one_eq_mod]
  rfl

theorem highHalf_lt (h : Word) : highHalf h < 2 ^ 32 := by
  have := h.isLt
  unfold highHalf
  omega

theorem lowHalf_lt (h : Word) : lowHalf h < 2 ^ 32 := Nat.mod_lt _ (by norm_num)

/-- h1 + i * h2 fits 64 bits for every index below 2^32. -/
theorem highHalf_add_mul_lowHalf_lt (h : Word) {i : Nat} (hi : i < 2 ^ 32) :
    highHalf h + i * lowHalf h < 2 ^ 64 := by
  have hhigh := highHalf_lt h
  have hlow := lowHalf_lt h
  have hmul : i * lowHalf h ≤ (2 ^ 32 - 1) * (2 ^ 32 - 1) := Nat.mul_le_mul (by omega) (by omega)
  omega

/-- A configuration CONFIG accepts has fewer than 2^32 + 1 counters (R7, R142). -/
theorem window_le_of_configOk {k o maxc : Word} (hok : configOk k o maxc = true) : k.toNat * o.toNat ≤ 2 ^ 32 := by
  obtain ⟨-, -, hwindow, -⟩ := configOk_iff.mp hok
  exact hwindow.trans Config.nSlots_le

theorem lt_of_configOk {k o maxc : Word} {i : Nat} (hok : configOk k o maxc = true) (hi : i < k.toNat) :
    i < 2 ^ 32 := by
  obtain ⟨⟨-, hk⟩, -⟩ := configOk_iff.mp hok
  have hmax := Config.kMax_le
  have hslots := Config.nSlots_le
  omega

/-- Settles O42: every intermediate value stays below 2^64. -/
theorem sixtyFourBitPositionsAreExact : Obligations.SixtyFourBitPositionsAreExact := by
  intro h k o maxc i hok hi
  obtain ⟨-, ho, -⟩ := configOk_iff.mp hok
  have hi32 := lt_of_configOk hok hi
  have hsum := highHalf_add_mul_lowHalf_lt h hi32
  have hmul : i * lowHalf h < 2 ^ 64 := (Nat.le_add_left _ _).trans_lt hsum
  have hpos : position h o.toNat i < 2 ^ 64 := by
    have hlt := position_lt h ho hi
    have hwindow := window_le_of_configOk hok
    omega
  have hbase : i * o.toNat < 2 ^ 64 := (position_mem_segment h ho i).left.trans_lt hpos
  have hidx : (BitVec.ofNat 64 i).toNat = i := Nat.mod_eq_of_lt (by omega)
  have hexact : ((h >>> 32) + BitVec.ofNat 64 i * (h &&& 0xffffffff#64)).toNat = highHalf h + i * lowHalf h := by
    rw [BitVec.toNat_add, BitVec.toNat_mul, hidx, toNat_highHalf, toNat_lowHalf, Nat.mod_eq_of_lt hmul,
      Nat.mod_eq_of_lt hsum]
  refine ⟨hexact, ?_⟩
  rw [BitVec.toNat_add, BitVec.toNat_umod, hexact, BitVec.toNat_mul, hidx, Nat.mod_eq_of_lt hbase]
  exact Nat.mod_eq_of_lt hpos

end Sys2Proof.Machine
end

section
/-! PROOFS of the statements about what a completion writes (spec/10_state.md R49, spec/60_exceptions.md R192). First
the two outcomes of a command, said once for all commands: it raises an error, or it is admitted and makes its writes.
The frames of the commands are read off from the writes. -/

namespace Sys2Proof.Machine

/-! ## The two outcomes of a command -/

/-- The writes of a successful REMOVE (R154). -/
def State.removeItem (s : State) : State :=
  { s with cnt := s.cnt.modifyAll (fun c => c - 1#8) s.digestPositions, itemCount := s.itemCount - 1#64 }

@[simp] theorem State.removeItem_cnt (s : State) :
    s.removeItem.cnt = s.cnt.modifyAll (fun c => c - 1#8) s.digestPositions := rfl

/-- The writes of a successful HASH_INIT (R119). -/
def State.startHash (s : State) : State := { s with v := sipInit s.ka0 s.ka1, hlen := 0#64, hashActive := true }

/-- The writes of a successful CONTAINS (R156). -/
def State.testItem (s : State) : State := { s with result := s.digestPositions.all (fun p => s.cnt.read p != 0#8) }

/-- There is an active configuration, and it is one CONFIG accepts (R51 item 1, R145). -/
def State.Configured (s : State) : Prop := s.cfgValid = true ∧ configOk s.cfgK s.cfgO s.cfgMaxc = true

/-- What a command needs in order to succeed. -/
def State.Admits (s : State) : Instr → Prop
  | .nop | .hashInit => True
  | .config => configOk s.paramK s.paramO s.paramMaxc = true
  | .hashBlock | .hashFinal _ => s.hashActive = true
  | .add => s.Configured ∧ ∀ p ∈ s.digestPositions, (s.cnt.read p).toNat < s.cfgMaxc.toNat
  | .remove => s.Configured ∧ ∀ p ∈ s.digestPositions, s.cnt.read p ≠ 0#8
  | .contains => s.Configured

/-- What a command that succeeds writes, besides ERR and BUSY. -/
@[simp] def State.writesOf (s : State) : Instr → State
  | .nop => s
  | .config => s.configure
  | .hashInit => s.startHash
  | .hashBlock => s.absorbBlock
  | .hashFinal n => s.finalizeHash n
  | .add => s.addItem
  | .remove => s.removeItem
  | .contains => s.testItem

/-- A command that ends with NONE was admitted and made its writes. -/
theorem exec_success {i : Instr} {s t : State} (h : exec i s = .next t) (he : t.err = .none) :
    s.Admits i ∧ t = (s.writesOf i).complete .none := by
  cases i with
  | nop => cases h; exact ⟨trivial, rfl⟩
  | config =>
    obtain ⟨-, rfl⟩ | ⟨hok, rfl⟩ := execConfig_next h
    · cases he
    · exact ⟨hok, rfl⟩
  | hashInit => cases execHashInit_next h; exact ⟨trivial, rfl⟩
  | hashBlock =>
    obtain ⟨-, rfl⟩ | ⟨hon, rfl⟩ := execHashBlock_next h
    · cases he
    · exact ⟨hon, rfl⟩
  | hashFinal n =>
    obtain ⟨-, rfl⟩ | ⟨hon, rfl⟩ := execHashFinal_next h
    · cases he
    · exact ⟨hon, rfl⟩
  | add =>
    obtain ⟨-, rfl⟩ | ⟨hv, hok, ⟨-, rfl⟩ | ⟨hroom, rfl⟩⟩ := execAdd_next h
    · cases he
    · cases he
    · exact ⟨⟨⟨hv, hok⟩, hroom⟩, rfl⟩
  | remove =>
    obtain ⟨-, rfl⟩ | ⟨hv, hok, ⟨-, rfl⟩ | ⟨hpos, rfl⟩⟩ := execRemove_next h
    · cases he
    · cases he
    · exact ⟨⟨⟨hv, hok⟩, hpos⟩, rfl⟩
  | contains =>
    obtain ⟨-, rfl⟩ | ⟨hv, hok, rfl⟩ := execContains_next h
    · cases he
    · exact ⟨⟨hv, hok⟩, rfl⟩

/-- A command that answers a next state raises a code and does nothing else, or it is admitted and makes its writes. -/
theorem exec_outcome {i : Instr} {s t : State} (h : exec i s = .next t) :
    (∃ c : ErrCode, c ≠ .none ∧ t = s.complete c) ∨ (s.Admits i ∧ t = (s.writesOf i).complete .none) := by
  by_cases he : t.err = .none
  · exact .inr (exec_success h he)
  · exact .inl ⟨t.err, he, exec_error_precise h he⟩

theorem removeEffect_admitted {s : State} (h : ∀ p ∈ s.digestPositions, s.cnt.read p ≠ 0#8) :
    removeEffect s = .next (s.removeItem.complete .none) := if_neg (by simpa using h)

theorem removeEffect_empty {s : State} (h : ∃ p ∈ s.digestPositions, s.cnt.read p = 0#8) :
    removeEffect s = .next (s.complete .counterUnderflow) := if_pos (by simpa using h)

/-- An admitted command succeeds. -/
theorem exec_admitted {i : Instr} {s : State} (h : s.Admits i) : exec i s = .next ((s.writesOf i).complete .none) := by
  cases i with
  | nop => rfl
  | config => exact execConfig_valid h
  | hashInit => rfl
  | hashBlock => exact hashGate_active h
  | hashFinal n => exact hashGate_active h
  | add =>
    obtain ⟨⟨hv, hok⟩, hroom⟩ := h
    exact (filterGate_configured hv hok).trans (addEffect_room hroom)
  | remove =>
    obtain ⟨⟨hv, hok⟩, hpos⟩ := h
    exact (filterGate_configured hv hok).trans (removeEffect_admitted hpos)
  | contains =>
    obtain ⟨hv, hok⟩ := h
    exact filterGate_configured hv hok

/-! ## Errors repeat -/

/-- No command reads ERR or BUSY, and every completion overwrites both: a completion before it makes no difference. -/
theorem exec_complete (i : Instr) (s : State) (c : ErrCode) : exec i (s.complete c) = exec i s := by
  cases i <;> rfl

/-- Settles O30: the state an error left differs from the one before it in ERR and BUSY only. -/
theorem errorsRepeat : Obligations.ErrorsRepeat := by
  intro i s t h he
  rw [exec_error_precise h he, exec_complete, h, ← exec_error_precise h he]

/-! ## Which completion writes which flag -/

theorem exec_result {i : Instr} {s t : State} (h : exec i s = .next t) (hi : i ≠ .contains ∨ t.err ≠ .none) :
    t.result = s.result := by
  obtain ⟨c, -, rfl⟩ | ⟨-, rfl⟩ := exec_outcome h
  · rfl
  · cases i with
    | contains => simp at hi
    | _ => rfl

theorem exec_cfgValid {i : Instr} {s t : State} (h : exec i s = .next t) (hi : i ≠ .config ∨ t.err ≠ .none) :
    t.cfgValid = s.cfgValid := by
  obtain ⟨c, -, rfl⟩ | ⟨-, rfl⟩ := exec_outcome h
  · rfl
  · cases i with
    | config => simp at hi
    | _ => rfl

theorem exec_hashActive {i : Instr} {s t : State} (h : exec i s = .next t)
    (hi : (i ≠ .config ∧ i ≠ .hashInit ∧ ∀ n, i ≠ .hashFinal n) ∨ t.err ≠ .none) : t.hashActive = s.hashActive := by
  obtain ⟨c, -, rfl⟩ | ⟨-, rfl⟩ := exec_outcome h
  · rfl
  · cases i with
    | config => simp at hi
    | hashInit => simp at hi
    | hashFinal n => simp at hi
    | _ => rfl

/-- NOP and HASH_INIT have no error (R119, R180). -/
theorem exec_err_none {i : Instr} {s t : State} (hi : i = .nop ∨ i = .hashInit) (h : exec i s = .next t) :
    t.err = .none := by
  obtain rfl | rfl := hi <;> cases h <;> rfl

/-- Settles O31: every flag is kept by an error and written by the writes of the commands R49 names. -/
theorem completionWritesOnlyItsFlags : Obligations.CompletionWritesOnlyItsFlags := by
  intro i s t h
  have hbusy : t.busy = false := by rw [exec_frame h]; rfl
  refine ⟨hbusy, exec_drop h, exec_result h, exec_cfgValid h, ?_, exec_hashActive h, ?_, ?_, (exec_err_none · h)⟩
  · rintro rfl he
    rw [(exec_success h he).right]
    rfl
  · rintro rfl
    cases h
    rfl
  · rintro n (rfl | rfl) he <;> rw [(exec_success h he).right] <;> rfl

/-! ## The filter commands leave the hash alone -/

/-- Settles O36: the writes of the three commands reach only the counters, the count and RESULT. -/
theorem filterCommandsLeaveTheHashAlone : Obligations.FilterCommandsLeaveTheHashAlone := by
  intro i s t hi h
  obtain ⟨c, -, rfl⟩ | ⟨-, rfl⟩ := exec_outcome h
  · exact ⟨rfl, fun _ => ⟨rfl, rfl⟩⟩
  · obtain rfl | rfl | rfl := hi
    · exact ⟨rfl, nofun⟩
    · exact ⟨rfl, nofun⟩
    · exact ⟨rfl, fun _ => ⟨rfl, rfl⟩⟩

/-! ## The hash commands leave the filter alone -/

/-- `s` with what the hash commands read and write, and DATA and the active key, taken from `t`. -/
def State.withHashOf (s t : State) : State :=
  { s with
    v := t.v, hlen := t.hlen, hashActive := t.hashActive, data := t.data, ka0 := t.ka0, ka1 := t.ka1
    digest := t.digest }

/-- The hash state, the digest and the code of two states agree. -/
def State.SameHash (s t : State) : Prop :=
  t.v = s.v ∧ t.hlen = s.hlen ∧ t.hashActive = s.hashActive ∧ t.digest = s.digest ∧ t.err = s.err

/-- The hash commands read nothing but the hash state, DATA and the active key (R123). -/
theorem exec_withHashOf {i : Instr} (hi : i = .hashInit ∨ i = .hashBlock ∨ ∃ n, i = .hashFinal n) (s s' : State) :
    AnswersRelated State.SameHash (exec i s) (exec i (s'.withHashOf s)) := by
  obtain rfl | rfl | ⟨n, rfl⟩ := hi
  · exact .next ⟨rfl, rfl, rfl, rfl, rfl⟩
  · exact .ite (.next ⟨rfl, rfl, rfl, rfl, rfl⟩) (.next ⟨rfl, rfl, rfl, rfl, rfl⟩)
  · exact .ite (.next ⟨rfl, rfl, rfl, rfl, rfl⟩) (.next ⟨rfl, rfl, rfl, rfl, rfl⟩)

/-- The hash commands write the hash state, DIGEST, ERR and BUSY only, and DIGEST only at HASH_FINAL. -/
theorem exec_hash_frame {i : Instr} {s t : State} (hi : i = .hashInit ∨ i = .hashBlock ∨ ∃ n, i = .hashFinal n)
    (h : exec i s = .next t) :
    t = { s with
          v := t.v, hlen := t.hlen, hashActive := t.hashActive, digest := t.digest, err := t.err, busy := false } ∧
      ((i = .hashInit ∨ i = .hashBlock) → t.digest = s.digest) := by
  obtain ⟨c, -, rfl⟩ | ⟨-, rfl⟩ := exec_outcome h
  · exact ⟨rfl, fun _ => rfl⟩
  · obtain rfl | rfl | ⟨n, rfl⟩ := hi
    · exact ⟨rfl, fun _ => rfl⟩
    · exact ⟨rfl, fun _ => rfl⟩
    · exact ⟨rfl, by simp⟩

/-- Settles O35: the frame is that of the writes, and a state that agrees on the seven inputs is the other state with
them taken over. -/
theorem hashCommandsLeaveTheFilterAlone : Obligations.HashCommandsLeaveTheFilterAlone := by
  intro i s t hi h
  obtain ⟨hframe, hdigest⟩ := exec_hash_frame hi h
  refine ⟨hframe, hdigest, fun s' t' hv hlen hact hdata hka0 hka1 hdig h' => ?_⟩
  have hs' : s' = s'.withHashOf s := by
    rw [State.withHashOf, ← hv, ← hlen, ← hact, ← hdata, ← hka0, ← hka1, ← hdig]
  obtain ⟨u, hu, hsame⟩ := exec_withHashOf hi s s' t h
  rw [← hs', h'] at hu
  cases hu
  exact hsame

end Sys2Proof.Machine
end

section
/-! PROOFS of the statements about the invariant (spec/10_state.md R51, spec/41_filter.md R157, R158). First the sum of
the configured counters, which bounds the count; then that each command, host access and reset keeps the invariant. -/

namespace Sys2Proof.Machine

/-! ## The sum of the configured counters -/

theorem State.counterSum_eq (s : State) : s.counterSum = ∑ j ∈ Finset.range s.window, (s.cnt.read j).toNat := rfl

/-- Of the counters below k * o exactly k are positions of a digest, for the positions are distinct and below k * o. -/
theorem sum_mem_positions (h : Word) {k o : Nat} (ho : 1 ≤ o) :
    (∑ j ∈ Finset.range (k * o), if j ∈ positions h k o then 1 else 0) = k := by
  have hset : (Finset.range (k * o)).filter (· ∈ positions h k o) = (positions h k o).toFinset := by
    ext j
    simp only [Finset.mem_filter, Finset.mem_range, List.mem_toFinset, and_iff_right_iff_imp]
    exact lt_of_mem_positions ho
  rw [← Finset.card_filter, hset, List.toFinset_card_of_nodup (positions_nodup h k ho), length_positions]

/-- R157's step: a state whose counters are the other's plus 1 at the positions of the digest has a sum larger by k. -/
theorem State.counterSum_of_counted {s t : State} (ho : 1 ≤ s.cfgO.toNat) (hwin : t.window = s.window)
    (hread : ∀ j, (t.cnt.read j).toNat = (s.cnt.read j).toNat + if j ∈ s.digestPositions then 1 else 0) :
    t.counterSum = s.counterSum + s.cfgK.toNat := by
  simp only [State.counterSum_eq, hwin, hread, Finset.sum_add_distrib]
  rw [State.window, State.digestPositions, sum_mem_positions s.digest ho]

/-! ## The bound of the count -/

theorem State.Inv.configured {s : State} (h : s.Inv) (hv : s.cfgValid = true) : s.Configured :=
  ⟨hv, by simpa [State.ConfigConsistent, hv] using h.config⟩

theorem State.Inv.unconfigured {s : State} (h : s.Inv) (hv : s.cfgValid = false) :
    s.cfgK = 0#64 ∧ s.cfgO = 0#64 ∧ s.cfgMaxc = 0#64 ∧ s.itemCount = 0#64 := by
  simpa [State.ConfigConsistent, hv] using h.config

/-- R158: each of the k * o configured counters is at most max_count, and their sum is k times the count. -/
theorem State.Inv.itemCount_le {s : State} (h : s.Inv) (hv : s.cfgValid = true) :
    s.itemCount.toNat ≤ s.cfgO.toNat * s.cfgMaxc.toNat := by
  obtain ⟨-, hok⟩ := h.configured hv
  obtain ⟨⟨hk, -⟩, -⟩ := configOk_iff.mp hok
  have hsum : s.counterSum ≤ s.window * s.cfgMaxc.toNat := by
    simpa [State.counterSum_eq] using
      Finset.sum_le_card_nsmul _ _ _ fun j hj => h.bounded hv j (Finset.mem_range.mp hj)
  rw [h.sum hv, State.window, Nat.mul_assoc] at hsum
  exact Nat.le_of_mul_le_mul_left hsum hk

theorem mul_maxc_le_of_configOk {k o maxc : Word} (hok : configOk k o maxc = true) :
    o.toNat * maxc.toNat ≤ 255 * Config.nSlots := by
  obtain ⟨⟨hk, -⟩, -, hwindow, -, hmaxc⟩ := configOk_iff.mp hok
  have ho : o.toNat ≤ Config.nSlots := (Nat.le_mul_of_pos_left _ hk).trans hwindow
  rw [Nat.mul_comm 255]
  exact Nat.mul_le_mul ho hmaxc

/-- Settles O43: R158's chain; with no configuration the count and both parameters are 0. -/
theorem itemCountIsBounded : Obligations.ItemCountIsBounded := by
  intro s h
  have hslots := Config.nSlots_le
  have hlt : 255 * Config.nSlots < 2 ^ 40 := by omega
  cases hv : s.cfgValid
  · obtain ⟨-, ho, -, hcount⟩ := h.unconfigured hv
    exact ⟨by simp [hcount], by simp [ho], hlt⟩
  · exact ⟨h.itemCount_le hv, mul_maxc_le_of_configOk (h.configured hv).right, hlt⟩

theorem State.Inv.itemCount_lt {s : State} (h : s.Inv) : s.itemCount.toNat < 2 ^ 40 := by
  obtain ⟨hcount, hmax, hlt⟩ := itemCountIsBounded s h
  exact (hcount.trans hmax).trans_lt hlt

/-! ## What the invariant speaks of -/

/-- `t` has the filter of `s`: the counters, the count and the active configuration. -/
def State.FilterKept (s t : State) : Prop :=
  t = { t with
        cfgValid := s.cfgValid, cfgK := s.cfgK, cfgO := s.cfgO, cfgMaxc := s.cfgMaxc, itemCount := s.itemCount
        cnt := s.cnt }

/-- The invariant speaks of the filter only. -/
theorem State.Inv.of_filterKept {s t : State} (h : s.Inv) (hk : s.FilterKept t) : t.Inv := by
  rw [hk]
  exact ⟨h.config, h.canonical, h.bounded, h.sum⟩

theorem State.FilterKept.take (s : State) (rest : List HostEvent) : s.FilterKept (s.take rest) := rfl

theorem State.FilterKept.complete (s : State) (c : ErrCode) : s.FilterKept (s.complete c) := rfl

/-- The commands but CONFIG, ADD and REMOVE keep the filter. -/
theorem State.filterKept_writesOf {i : Instr} (s : State) (hi : i ≠ .config ∧ i ≠ .add ∧ i ≠ .remove) :
    s.FilterKept ((s.writesOf i).complete .none) := by
  cases i with
  | config => simp at hi
  | add => simp at hi
  | remove => simp at hi
  | _ => rfl

theorem exec_filterKept {i : Instr} {s t : State} (h : exec i s = .next t)
    (hi : (i ≠ .config ∧ i ≠ .add ∧ i ≠ .remove) ∨ t.err ≠ .none) : s.FilterKept t := by
  obtain ⟨c, -, rfl⟩ | ⟨-, rfl⟩ := exec_outcome h
  · exact .complete s c
  · exact s.filterKept_writesOf (hi.resolve_right (by simp))

/-! ## CONFIG, ADD and REMOVE keep the invariant -/

theorem State.Configured.positions_lt {s : State} (hc : s.Configured) {p : Nat} (hp : p ∈ s.digestPositions) :
    p < s.window := by
  obtain ⟨-, ho, -⟩ := configOk_iff.mp hc.right
  exact lt_of_mem_positions ho hp

theorem State.Configured.positions_nodup {s : State} (hc : s.Configured) : s.digestPositions.Nodup := by
  obtain ⟨-, ho, -⟩ := configOk_iff.mp hc.right
  exact Machine.positions_nodup _ _ ho

theorem State.Configured.window_le {s : State} (hc : s.Configured) : s.window ≤ Config.nSlots := by
  obtain ⟨-, -, hwindow, -⟩ := configOk_iff.mp hc.right
  exact hwindow

/-- A loop over the positions of the digest names existing counters only, so the counters stay canonical. -/
theorem State.Configured.canonical_modifyAll {s : State} (hc : s.Configured) (h : s.CountersCanonical)
    (f : Byte → Byte) : (s.cnt.modifyAll f s.digestPositions).wf = true ∧
      (s.cnt.modifyAll f s.digestPositions).inRange :=
  Memory.modifyAll_spec h f fun _ hp => (hc.positions_lt hp).trans_le hc.window_le

/-- The invariant of a state with an active configuration (R51). -/
theorem State.Configured.inv {s : State} (hc : s.Configured) (hcanon : s.CountersCanonical)
    (hbound : ∀ j < s.window, (s.cnt.read j).toNat ≤ s.cfgMaxc.toNat)
    (hsum : s.counterSum = s.cfgK.toNat * s.itemCount.toNat) : s.Inv := by
  obtain ⟨hv, hok⟩ := hc
  exact ⟨by simpa [State.ConfigConsistent, hv] using hok, hcanon, fun _ => hbound, fun _ => hsum⟩

/-- CONFIG zeroes every counter it configures (R143). -/
theorem State.read_configure {s : State} {j : Nat} (hj : j < s.configure.window) : s.configure.cnt.read j = 0#8 :=
  (Memory.read_clearBelow s.cnt _ j).trans (if_pos hj)

theorem State.Inv.configure {s : State} (h : s.Inv) (hok : s.Admits .config) : s.configure.Inv := by
  obtain ⟨hwf, hrange⟩ := h.canonical
  refine State.Configured.inv ⟨rfl, hok⟩ ⟨Memory.wf_clearBelow hwf _, Memory.inRange_clearBelow hrange _⟩ ?_ ?_
  · intro j hj
    rw [State.read_configure hj]
    exact Nat.zero_le _
  · refine Finset.sum_eq_zero (s := Finset.range s.configure.window) fun j hj => ?_
    rw [State.read_configure (Finset.mem_range.mp hj)]
    rfl

/-- ADD's count does not wrap (R158). -/
theorem State.Inv.toNat_itemCount_addItem {s : State} (h : s.Inv) :
    s.addItem.itemCount.toNat = s.itemCount.toNat + 1 := by
  have hlt := h.itemCount_lt
  rw [State.addItem, BitVec.toNat_add, BitVec.toNat_ofNat]
  omega

theorem State.Inv.addItem {s : State} (h : s.Inv) (hadm : s.Admits .add) : s.addItem.Inv := by
  obtain ⟨hc, hroom⟩ := hadm
  obtain ⟨-, ho, -⟩ := configOk_iff.mp hc.right
  have hread := toNat_read_addItem h.canonical.left hc.right hroom
  refine State.Configured.inv (s := s.addItem) hc (hc.canonical_modifyAll h.canonical (· + 1#8)) (fun j hj => ?_) ?_
  · rw [hread]
    split_ifs with hmem
    · exact hroom j hmem
    · exact h.bounded hc.left j hj
  · rw [State.counterSum_of_counted (t := s.addItem) ho rfl hread, h.toNat_itemCount_addItem, h.sum hc.left]
    rfl

/-- R154's loop takes 1 from each position once, because the positions are distinct, and wraps no counter, because each
is at least 1. -/
theorem toNat_read_removeItem {s : State} (hwf : s.cnt.wf = true) (hadm : s.Admits .remove) (j : Nat) :
    (s.cnt.read j).toNat = (s.removeItem.cnt.read j).toNat + if j ∈ s.digestPositions then 1 else 0 := by
  obtain ⟨hc, hpos⟩ := hadm
  rw [State.removeItem_cnt, Memory.read_modifyAll hwf _ hc.positions_nodup]
  split_ifs with hj
  · have hne := hpos j hj
    bv_omega
  · rfl

/-- What a REMOVE takes from the counters is k (R157). -/
theorem State.Inv.counterSum_removeItem {s : State} (h : s.Inv) (hadm : s.Admits .remove) :
    s.counterSum = s.removeItem.counterSum + s.cfgK.toNat := by
  obtain ⟨-, ho, -⟩ := configOk_iff.mp hadm.left.right
  exact State.counterSum_of_counted (s := s.removeItem) ho rfl (toNat_read_removeItem h.canonical.left hadm)

/-- The counters add up to k times the count, and to k at least, so the count is at least 1 and does not wrap (R154). -/
theorem State.Inv.toNat_itemCount_removeItem {s : State} (h : s.Inv) (hadm : s.Admits .remove) :
    s.removeItem.itemCount.toNat + 1 = s.itemCount.toNat := by
  obtain ⟨⟨hk, -⟩, -⟩ := configOk_iff.mp hadm.left.right
  have hsum := h.counterSum_removeItem hadm
  rw [h.sum hadm.left.left] at hsum
  have hpos : 0 < s.itemCount.toNat := Nat.pos_of_mul_pos_left (a := s.cfgK.toNat) (by omega)
  rw [State.removeItem]
  bv_omega

theorem State.Inv.removeItem {s : State} (h : s.Inv) (hadm : s.Admits .remove) : s.removeItem.Inv := by
  have hc := hadm.left
  refine State.Configured.inv (s := s.removeItem) hc (hc.canonical_modifyAll h.canonical (· - 1#8)) (fun j hj => ?_) ?_
  · have hread := toNat_read_removeItem h.canonical.left hadm j
    exact (Nat.le_of_add_right_le hread.ge).trans (h.bounded hc.left j hj)
  · have hsum := h.counterSum_removeItem hadm
    rw [h.sum hc.left, ← h.toNat_itemCount_removeItem hadm, Nat.mul_succ] at hsum
    exact (Nat.add_right_cancel hsum).symm

/-! ## Every step keeps the invariant -/

theorem State.Inv.exec {i : Instr} {s t : State} (h : s.Inv) (hexec : exec i s = .next t) : t.Inv := by
  by_cases hi : (i ≠ .config ∧ i ≠ .add ∧ i ≠ .remove) ∨ t.err ≠ .none
  · exact h.of_filterKept (exec_filterKept hexec hi)
  · obtain ⟨hname, hok⟩ := not_or.mp hi
    obtain ⟨hadm, rfl⟩ := exec_success hexec (not_not.mp hok)
    cases i with
    | config => exact (h.configure hadm).of_filterKept rfl
    | add => exact (h.addItem hadm).of_filterKept rfl
    | remove => exact (h.removeItem hadm).of_filterKept rfl
    | _ => simp at hname

theorem State.Inv.engineStep {s t : State} (h : s.Inv) (hstep : engineStep s = .next t) : t.Inv := by
  obtain ⟨i, -, hi⟩ | ⟨-, rfl⟩ := engineStep_next hstep
  · exact h.exec hi
  · exact h.of_filterKept rfl

/-- The invariant asks nothing of the counters' values while there is no configuration (R51's last sentence). -/
theorem State.inv_of_unconfigured {s : State} (hv : s.cfgValid = false)
    (hzero : s.cfgK = 0#64 ∧ s.cfgO = 0#64 ∧ s.cfgMaxc = 0#64 ∧ s.itemCount = 0#64) (hcanon : s.CountersCanonical) :
    s.Inv where
  config := by simpa [State.ConfigConsistent, hv] using hzero
  canonical := hcanon
  bounded := by simp [State.CountersBounded, hv]
  sum := by simp [State.SumInvariant, hv]

/-- The counters after a reset are canonical, whatever they are (log entry 6). -/
theorem State.inv_resetBlock (s : State) : s.resetBlock.Inv :=
  State.inv_of_unconfigured rfl ⟨rfl, rfl, rfl, rfl⟩ (Memory.canon_spec _)

theorem State.Inv.hostEvent {e : HostEvent} {s t : State} (h : s.Inv) (he : hostEvent e s = .next t) : t.Inv := by
  by_cases hr : e = .reset
  · subst hr
    cases he
    exact s.inv_resetBlock
  · refine h.of_filterKept ?_
    rw [hostEvent_frame he hr]
    rfl

/-- Settles O18: after a reset there is no configuration, and the counters of State.reset are the empty list. -/
theorem resetMeetsInvariant : Obligations.ResetMeetsInvariant := by
  refine ⟨State.inv_of_unconfigured rfl ⟨rfl, rfl, rfl, rfl⟩ ⟨rfl, nofun⟩, fun s t h => ?_⟩
  cases h
  exact s.inv_resetBlock

/-- Settles O19: the engine, the host and reset keep the invariant, and taking an access from the host's list does not
touch the filter. -/
theorem stepKeepsInvariant : Obligations.StepKeepsInvariant := by
  intro s t h hstep
  obtain ⟨-, he⟩ | ⟨e, rest, -, -, he⟩ | ⟨-, -, rfl⟩ := step_next hstep
  · exact h.engineStep he
  · exact State.Inv.hostEvent (h.of_filterKept (.take s rest)) he
  · exact h

end Sys2Proof.Machine
end

section
/-! PROOFS of the laws of the filter (spec/20_memory.md R63, spec/41_filter.md R154 to R161): REMOVE, the net count, the
round trip of ADD and REMOVE, and no false negatives. Each follows from what the writes of the command do to one
counter. -/

namespace Sys2Proof.Machine

/-! ## REMOVE -/

/-- Settles O26: the gate and the test for an empty counter decide, and the invariant keeps the count from wrapping. -/
theorem removeUncountsAllPositionsOrNone : Obligations.RemoveUncountsAllPositionsOrNone := by
  refine ⟨decode_ok_iff.mpr (by decide), fun s h => ⟨filterGate_unconfigured, fun hv hempty => ?_, fun hv hpos => ?_⟩⟩
  · obtain ⟨-, hok⟩ := h.configured hv
    exact (filterGate_configured hv hok).trans (removeEffect_empty hempty)
  · have hadm : s.Admits .remove := ⟨h.configured hv, hpos⟩
    exact ⟨_, exec_admitted hadm, rfl, h.toNat_itemCount_removeItem hadm, toNat_read_removeItem h.canonical.left hadm⟩

/-! ## The net count -/

theorem State.FilterKept.itemCount_eq {s t : State} (h : s.FilterKept t) : t.itemCount = s.itemCount := by
  rw [h]

/-- Settles O34: the three commands that write the count write what R161 says, without wrapping. -/
theorem itemCountIsTheNetCount : Obligations.ItemCountIsTheNetCount := by
  intro i s t h hexec
  by_cases he : t.err = .none
  · obtain ⟨hadm, ht⟩ := exec_success hexec he
    cases i with
    | config => simp [ht]
    | add => simpa [ht] using h.toNat_itemCount_addItem
    | remove =>
      have hcount := h.toNat_itemCount_removeItem hadm
      simpa [ht] using Nat.eq_sub_of_add_eq hcount
    | _ => simp [(exec_filterKept hexec (.inl (by simp))).itemCount_eq]
  · simp [he, (exec_filterKept hexec (.inr he)).itemCount_eq]

/-! ## Unused counters -/

/-- A loop over the positions of the digest stays below the window. -/
theorem State.Configured.read_modifyAll_unused {s : State} (hc : s.Configured) (hwf : s.cnt.wf = true) (f : Byte → Byte)
    {j : Nat} (hj : s.window ≤ j) : (s.cnt.modifyAll f s.digestPositions).read j = s.cnt.read j := by
  rw [Memory.read_modifyAll hwf f hc.positions_nodup]
  exact if_neg fun hmem => (hc.positions_lt hmem).not_ge hj

/-- Settles O37: CONFIG clears below the new window only, and the positions of ADD and REMOVE lie below the window. -/
theorem unusedCountersAreNeverWritten : Obligations.UnusedCountersAreNeverWritten := by
  intro i s t h hexec j hj
  have hwf := h.canonical.left
  obtain ⟨c, -, rfl⟩ | ⟨hadm, rfl⟩ := exec_outcome hexec
  · rfl
  · cases i with
    | config => exact (Memory.read_clearBelow s.cnt _ j).trans (if_neg (Nat.not_lt.mpr hj))
    | add => exact State.Configured.read_modifyAll_unused hadm.left hwf (· + 1#8) hj
    | remove => exact State.Configured.read_modifyAll_unused hadm.left hwf (· - 1#8) hj
    | _ => rfl

/-! ## ADD and REMOVE are inverse -/

/-- Adding 1 to distinct counters and taking it away again gives the same canonical array. -/
theorem Memory.modifyAll_sub_add {m : Memory} (h : m.wf = true ∧ m.inRange) {ps : List Nat} (hps : ps.Nodup)
    (hlt : ∀ p ∈ ps, p < Config.nSlots) :
    (m.modifyAll (fun c => c + 1#8) ps).modifyAll (fun c => c - 1#8) ps = m := by
  have hadd := Memory.modifyAll_spec h (fun c => c + 1#8) hlt
  obtain ⟨hsub, -⟩ := Memory.modifyAll_spec hadd (fun c => c - 1#8) hlt
  refine Memory.ext_of_wf hsub h.left fun j => ?_
  rw [Memory.read_modifyAll hadd.left _ hps, Memory.read_modifyAll h.left _ hps]
  split_ifs
  · exact BitVec.add_sub_cancel _ _
  · rfl

/-- R160: the counters of a successful ADD, with the positions of the digest uncounted again. -/
theorem State.Inv.modifyAll_addItem {s : State} (h : s.Inv) (hc : s.Configured) :
    s.addItem.cnt.modifyAll (fun c => c - 1#8) s.digestPositions = s.cnt :=
  Memory.modifyAll_sub_add h.canonical hc.positions_nodup fun _ hp => (hc.positions_lt hp).trans_le hc.window_le

/-- Settles O44: after the ADD every position holds at least 1, so REMOVE is admitted and undoes it. -/
theorem removeUndoesAdd : Obligations.RemoveUndoesAdd := by
  intro s t u h hexec he hdig hcnt hitem hv hk ho hmaxc
  obtain ⟨⟨hc, hroom⟩, rfl⟩ := exec_success hexec he
  have hpositions : u.digestPositions = s.digestPositions := by
    rw [State.digestPositions, hdig, hk, ho]
    rfl
  have hpos : ∀ p ∈ u.digestPositions, u.cnt.read p ≠ 0#8 := by
    intro p hp hzero
    have hread := toNat_read_addItem h.canonical.left hc.right hroom p
    rw [← hpositions, if_pos hp, ← show u.cnt = s.addItem.cnt from hcnt, hzero] at hread
    exact absurd hread (Nat.succ_ne_zero _).symm
  have hadm : u.Admits .remove := ⟨⟨hv.trans hc.left, by rw [hk, ho, hmaxc]; exact hc.right⟩, hpos⟩
  have hundo : u.cnt.modifyAll (fun c => c - 1#8) u.digestPositions = s.cnt := by
    rw [hcnt, hpositions]
    exact h.modifyAll_addItem hc
  have hcount : u.itemCount - 1#64 = s.itemCount := by
    rw [hitem]
    exact BitVec.add_sub_cancel _ _
  rw [exec_admitted hadm, State.writesOf, State.removeItem, hundo, hcount]
  rfl

/-! ## No false negatives -/

theorem State.FilterKept.tracks {s t : State} {live : List Word} (h : s.FilterKept t) (htracks : s.Tracks live) :
    t.Tracks live := by
  rw [h]
  exact htracks

theorem State.tracks_configure (s : State) : s.configure.Tracks [] := fun j hj => by
  rw [State.read_configure hj]
  rfl

theorem State.Tracks.addItem {s : State} {live : List Word} (htracks : s.Tracks live) (h : s.Inv)
    (hadm : s.Admits .add) : s.addItem.Tracks (s.digest :: live) := by
  intro j hj
  rw [toNat_read_addItem h.canonical.left hadm.left.right hadm.right, List.countP_cons, htracks j hj]
  simp only [decide_eq_true_eq]
  rfl

theorem State.Tracks.removeItem {s : State} {live : List Word} (htracks : s.Tracks live) (h : s.Inv)
    (hadm : s.Admits .remove) (hlive : s.digest ∈ live) : s.removeItem.Tracks (live.erase s.digest) := by
  intro j hj
  have hread := toNat_read_removeItem h.canonical.left hadm j
  rw [htracks j hj] at hread
  change _ = List.countP (fun h => decide (j ∈ positions h s.cfgK.toNat s.cfgO.toNat)) _
  rw [List.countP_erase, hread]
  simp only [hlive, true_and, decide_eq_true_eq]
  exact (Nat.add_sub_cancel ..).symm

/-- R159's step: a digest of the list counts in each of its positions. -/
theorem State.Tracks.read_ne_zero {s : State} {live : List Word} (htracks : s.Tracks live) (hc : s.Configured)
    (hlive : s.digest ∈ live) : ∀ p ∈ s.digestPositions, s.cnt.read p ≠ 0#8 := by
  intro p hp hzero
  have hcount := htracks p (hc.positions_lt hp)
  have hpos : 0 < live.countP (fun h => decide (p ∈ positions h s.cfgK.toNat s.cfgO.toNat)) :=
    List.countP_pos_iff.mpr ⟨s.digest, hlive, decide_eq_true hp⟩
  rw [← hcount, hzero] at hpos
  exact absurd hpos (by decide)

/-- Settles O45: the writes of CONFIG, ADD and REMOVE change each counter as they change the list, and a live digest has
no empty position. -/
theorem noFalseNegatives : Obligations.NoFalseNegatives := by
  intro s live h
  refine ⟨fun t hexec he => ?_, fun hv htracks => ⟨fun t hexec he => ?_, fun hlive => ?_, fun hlive => ?_,
    fun i t hconfig hadd hremove hexec => ?_⟩⟩
  · rw [(exec_success hexec he).right]
    exact s.tracks_configure
  · obtain ⟨hadm, rfl⟩ := exec_success hexec he
    exact htracks.addItem h hadm
  · have hadm : s.Admits .remove := ⟨h.configured hv, htracks.read_ne_zero (h.configured hv) hlive⟩
    exact ⟨_, exec_admitted hadm, rfl, htracks.removeItem h hadm hlive⟩
  · have hadm : s.Admits .contains := h.configured hv
    exact ⟨_, exec_admitted hadm, all_nonzero_iff.mpr (htracks.read_ne_zero hadm hlive)⟩
  · exact (exec_filterKept hexec (.inl ⟨hconfig, hadd, hremove⟩)).tracks htracks

/-! ## An empty filter contains nothing -/

/-- Settles O46: position 0 of any digest is a configured counter, and CONFIG left it 0. -/
theorem emptyFilterContainsNothing : Obligations.EmptyFilterContainsNothing := by
  intro s t u hexec he hcnt hv hk ho hmaxc
  obtain ⟨hok, rfl⟩ := exec_success hexec he
  have hc : u.Configured := ⟨hv, by rw [hk, ho, hmaxc]; exact hok⟩
  obtain ⟨⟨hkpos, -⟩, -⟩ := configOk_iff.mp hc.right
  have hmem : position u.digest u.cfgO.toNat 0 ∈ u.digestPositions := mem_positions.mpr ⟨0, hkpos, rfl⟩
  have hzero : u.cnt.read (position u.digest u.cfgO.toNat 0) = 0#8 := by
    have hwindow : u.window = s.configure.window := by
      rw [State.window, hk, ho]
      rfl
    rw [hcnt]
    exact State.read_configure (hwindow ▸ hc.positions_lt hmem)
  refine ⟨_, exec_admitted (i := .contains) hc, rfl, ?_⟩
  exact Bool.eq_false_iff.mpr fun hall => all_nonzero_iff.mp hall _ hmem hzero

end Sys2Proof.Machine
end

section
/-! PROOFS of the statements about the hash (spec/40_siphash.md R112, R113, R119, R122). A message's state words after i
blocks follow HASH_BLOCK's recurrence, and the block HASH_FINAL absorbs is the message's padding block. -/

namespace Sys2Proof.Machine

/-! ## The round and the start -/

/-- Settles O38: running the sequential program's assignments gives the two half-rounds' words. -/
theorem parallelRoundIsTheSequentialOne : Obligations.ParallelRoundIsTheSequentialOne := fun _ => rfl

/-- Settles O22: HASH_INIT has no gate, and Init pairs the key words with the constants as R119 writes them. -/
theorem hashInitStartsAMessage : Obligations.HashInitStartsAMessage :=
  ⟨decode_ok_iff.mpr (by decide), fun _ => rfl⟩

/-! ## A message, block by block -/

theorem sipAbsorb_succ (k0 k1 : Word) (b : List Byte) (i : Nat) :
    sipAbsorb k0 k1 b (i + 1) = sipCompress (sipAbsorb k0 k1 b i) (blockAt b i) := by
  simp only [sipAbsorb, List.range_succ, List.foldl_append, List.foldl_cons, List.foldl_nil]

theorem State.absorbed_startHash (s : State) (b : List Byte) : s.startHash.Absorbed b 0 := ⟨rfl, rfl, rfl⟩

/-- R122's step: a block of the message in DATA is absorbed. -/
theorem State.Absorbed.absorbBlock {s : State} {b : List Byte} {i : Nat} (h : s.Absorbed b i)
    (hdata : s.data = blockAt b i) : s.absorbBlock.Absorbed b (i + 1) := by
  refine ⟨h.active, ?_, ?_⟩
  · rw [State.absorbBlock_v, State.absorbBlock_ka0, State.absorbBlock_ka1, h.words, hdata, sipAbsorb_succ]
  · rw [State.absorbBlock_hlen, h.length, Nat.mul_succ, BitVec.ofNat_add]

/-! ## The end of a message -/

/-- The low bytes of DATA are the tail of the message (R118, R121). -/
theorem tailOf_eq_wordLE {data : Word} {bs : List Byte} {n : Nat} (hn : n ≤ 8)
    (h : data.toNat % 2 ^ (8 * n) = packLE bs) : tailOf data n = wordLE bs := by
  rw [wordLE, ← h, ← tailOf_toNat data hn, BitVec.ofNat_toNat, BitVec.setWidth_eq]

/-- After all full blocks HLEN and the tail length add up to the length of the message. -/
theorem State.Absorbed.hlen_add_tail {s : State} {b : List Byte} (h : s.Absorbed b (b.length / 8)) :
    s.hlen + BitVec.ofNat 64 (b.length % 8) = BitVec.ofNat 64 b.length := by
  rw [h.length, ← BitVec.ofNat_add, Nat.div_add_mod]

/-- R122's last step: HASH_FINAL with the tail in DATA leaves the hash of the message. -/
theorem State.Absorbed.finalizeHash_digest {s : State} {b : List Byte} (h : s.Absorbed b (b.length / 8))
    (htail : s.data.toNat % 2 ^ (8 * (b.length % 8)) = packLE (tailBytes b)) :
    (s.finalizeHash (b.length % 8)).digest = sipHashWords s.ka0 s.ka1 b := by
  have hn : b.length % 8 ≤ 8 := (Nat.mod_lt _ (by norm_num)).le
  rw [State.finalizeHash_digest, State.finalizeHash_v, h.hlen_add_tail, tailOf_eq_wordLE hn htail, h.words]
  rfl

/-! ## Commands that leave a message alone -/

/-- `t` has the hash in progress of `s` and the active key. -/
def State.HashKept (s t : State) : Prop :=
  t = { t with v := s.v, hlen := s.hlen, hashActive := s.hashActive, ka0 := s.ka0, ka1 := s.ka1 }

theorem State.Absorbed.of_hashKept {s t : State} {b : List Byte} {i : Nat} (h : s.Absorbed b i) (hk : s.HashKept t) :
    t.Absorbed b i := by
  rw [hk]
  exact ⟨h.active, h.words, h.length⟩

/-- NOP, a failing CONFIG and the filter commands keep the hash in progress (R122, R163). -/
theorem exec_hashKept {i : Instr} {s t : State} (h : exec i s = .next t)
    (hi : i = .nop ∨ (i = .config ∧ t.err ≠ .none) ∨ i = .add ∨ i = .remove ∨ i = .contains) : s.HashKept t := by
  obtain ⟨c, -, rfl⟩ | ⟨-, rfl⟩ := exec_outcome h
  · rfl
  · obtain rfl | ⟨rfl, he⟩ | rfl | rfl | rfl := hi
    · rfl
    · exact absurd rfl he
    · rfl
    · rfl
    · rfl

/-- Settles O39: start, step and end are R122's, and the other commands keep what it speaks of. -/
theorem commandSequenceComputesTheHash : Obligations.CommandSequenceComputesTheHash := by
  intro b
  refine ⟨fun s => ?_, fun s i h hdata => ?_, fun s h htail => ?_, fun i n s t h hexec hi => ?_⟩
  · exact ⟨_, exec_admitted (i := .hashInit) trivial, (s.absorbed_startHash b).of_hashKept rfl, rfl, rfl⟩
  · exact ⟨_, exec_admitted (i := .hashBlock) h.active, (h.absorbBlock hdata).of_hashKept rfl, rfl, rfl⟩
  · exact ⟨_, exec_admitted (i := .hashFinal _) h.active, h.finalizeHash_digest htail, h.hlen_add_tail, rfl⟩
  · exact h.of_hashKept (exec_hashKept hexec hi)

end Sys2Proof.Machine
end

section
/-! PROOFS of the statements about a step (spec/20_memory.md R60, spec/60_exceptions.md R203, R204,
spec/70_reset_and_hazards.md R229). First whose step it is; then that every command and every access with a meaning
answers from a sound configuration, and what an access can change while a command is pending. -/

namespace Sys2Proof.Machine

/-! ## Whose step it is -/

theorem step_engine {s : State} (h : s.turn = .engine) : step s = engineStep s := by simp only [step, agentStep, h]

theorem step_host {s : State} {e : HostEvent} {rest : List HostEvent} (h : s.turn = .host e rest) :
    step s = hostStep e rest s := by simp only [step, agentStep, h]

theorem step_idle {s : State} (h : s.turn = .idle) : step s = .next s := by simp only [step, agentStep, h]

theorem engineStep_decoded {s : State} {i : Instr} (h : decode s.pend = .ok i) : engineStep s = exec i s := by
  simp only [engineStep, h]

/-- Settles O4: it is the engine's turn, and its step is the pending word's completion. -/
theorem stepCompletesThePendingCommand : Obligations.StepCompletesThePendingCommand := by
  intro s hb hnone
  rw [step_engine (State.turn_engine.mpr ⟨hb, hnone⟩)]
  exact ⟨rfl, fun _ => engineStep_decoded, fun e he => engineStep_illegal ⟨e, he⟩⟩

/-- Settles O5: it is the host's turn. -/
theorem stepMakesTheNextHostAccess : Obligations.StepMakesTheNextHostAccess := by
  intro s e rest hin hturn
  refine step_host (State.turn_host.mpr ⟨hin, fun hb => ?_⟩)
  exact hturn.resolve_left (by simp [hb])

/-- Settles O6: one of the three turns. -/
theorem idleBlockWaits : Obligations.IdleBlockWaits := by
  refine fun s => ⟨fun hb hin => step_idle (State.turn_idle.mpr ⟨hb, hin⟩), fun hmove => ?_⟩
  cases h : s.turn with
  | engine => exact .inl ⟨(State.turn_engine.mp h).left, step_engine h⟩
  | host e rest => exact .inr ⟨e, rest, (State.turn_host.mp h).left, step_host h⟩
  | idle =>
    obtain ⟨hb, hin⟩ := State.turn_idle.mp h
    simp [hb, hin] at hmove

/-! ## Commands and accesses answer -/

/-- R51 item 1: an active configuration is one CONFIG accepts. -/
def State.ConfigSound (s : State) : Prop := s.cfgValid = true → configOk s.cfgK s.cfgO s.cfgMaxc = true

theorem State.Inv.configSound {s : State} (h : s.Inv) : s.ConfigSound := fun hv => (h.configured hv).right

theorem addEffect_answers (s : State) : ∃ t, addEffect s = .next t := by
  unfold addEffect
  split_ifs <;> exact ⟨_, rfl⟩

theorem removeEffect_answers (s : State) : ∃ t, removeEffect s = .next t := by
  unfold removeEffect
  split_ifs <;> exact ⟨_, rfl⟩

/-- From a sound configuration the gate lets no fault through. -/
theorem filterGate_answers {f : State → Answer} {s : State} (hs : s.ConfigSound) (hf : ∃ t, f s = .next t) :
    ∃ t, filterGate f s = .next t := by
  cases hv : s.cfgValid
  · exact ⟨_, filterGate_unconfigured hv⟩
  · rwa [filterGate_configured hv (hs hv)]

theorem hashGate_answers (s e : State) : ∃ t, hashGate s e = .next t := by
  cases h : s.hashActive
  · exact ⟨_, hashGate_inactive h⟩
  · exact ⟨_, hashGate_active h⟩

/-- No command hangs (R204). -/
theorem exec_answers {s : State} (hs : s.ConfigSound) (i : Instr) : ∃ t, exec i s = .next t := by
  cases i with
  | nop => exact ⟨_, rfl⟩
  | config =>
    by_cases hok : configOk s.paramK s.paramO s.paramMaxc = true
    · exact ⟨_, execConfig_valid hok⟩
    · exact ⟨_, execConfig_invalid hok⟩
  | hashInit => exact ⟨_, rfl⟩
  | hashBlock => exact hashGate_answers s _
  | hashFinal n => exact hashGate_answers s _
  | add => exact filterGate_answers hs (addEffect_answers s)
  | remove => exact filterGate_answers hs (removeEffect_answers s)
  | contains => exact filterGate_answers hs ⟨_, rfl⟩

theorem engineStep_answers {s : State} (hs : s.ConfigSound) : ∃ t, engineStep s = .next t := by
  cases h : decode s.pend with
  | ok i => exact engineStep_decoded h ▸ exec_answers hs i
  | error e => exact ⟨_, engineStep_illegal ⟨e, h⟩⟩

theorem HostEvent.meaningful_read {width off : Nat} :
    (HostEvent.read width off).meaningful = true ↔ width = 64 ∧ off < 0x100 ∧ off % 8 = 0 := by
  simp [HostEvent.meaningful, and_assoc]

theorem HostEvent.meaningful_write {width off : Nat} (v : Word) :
    (HostEvent.write width off v).meaningful = true ↔ width = 64 ∧ off < 0x100 ∧ off % 8 = 0 :=
  HostEvent.meaningful_read

/-- An access with a meaning is made (R64, R65). -/
theorem hostEvent_answers {e : HostEvent} {s : State} (hs : s.ConfigSound) (he : e.meaningful = true) :
    ∃ t, hostEvent e s = .next t := by
  cases e with
  | read width off =>
    obtain ⟨rfl, hoff⟩ := HostEvent.meaningful_read.mp he
    obtain ⟨t, -, ht, -⟩ := hostEvent_read_spec hoff hs
    exact ⟨t, ht⟩
  | write width off v =>
    obtain ⟨rfl, hoff⟩ := (HostEvent.meaningful_write v).mp he
    exact ⟨_, checkedAccess_meaningful hoff _ s⟩
  | poll => exact ⟨_, rfl⟩
  | reset => exact ⟨_, rfl⟩

/-- An access without a meaning is refused (R66). -/
theorem hostEvent_refused {e : HostEvent} (s : State) (he : e.meaningful = false) :
    ∃ r, hostEvent e s = .refused r := by
  cases e with
  | read width off =>
    refine (onlyAlignedWholeAccessesHaveMeaning s width off 0#64).left.mpr ?_
    have hmean := mt HostEvent.meaningful_read.mpr (Bool.eq_false_iff.mp he)
    omega
  | write width off v =>
    refine (onlyAlignedWholeAccessesHaveMeaning s width off v).right.mpr ?_
    have hmean := mt (HostEvent.meaningful_write v).mpr (Bool.eq_false_iff.mp he)
    omega
  | poll => cases he
  | reset => cases he

/-- Settles O7: the invariant makes the configuration sound, so only the host's access can stop the step. -/
theorem stepStopsOnlyAtMeaninglessAccess : Obligations.StepStopsOnlyAtMeaninglessAccess := by
  intro s h
  cases hturn : s.turn with
  | engine => exact .inl (step_engine hturn ▸ engineStep_answers h.configSound)
  | idle => exact .inl ⟨s, step_idle hturn⟩
  | host e rest =>
    rw [step_host hturn]
    cases he : e.meaningful
    · obtain ⟨r, hr⟩ := hostEvent_refused (s.take rest) he
      exact .inr ⟨e, rest, r, (State.turn_host.mp hturn).left, he, hr⟩
    · exact .inl (hostEvent_answers (s := s.take rest) h.configSound he)

/-! ## While a command is pending -/

theorem engineStep_busy {s t : State} (h : engineStep s = .next t) : t.busy = false := by
  rw [engineStep_frame h]
  rfl

/-- A register whose write is not dropped while BUSY = 1 has no storage the host can write (R64). -/
theorem State.store_of_not_dropped {r : Reg} (hr : r.droppedWhenBusy = false) (v : Word) (s : State) :
    s.store r v = s := by
  cases r with
  | id | status | cfgK | cfgO | cfgMaxc | itemCount | hlen | cntData => rfl
  | _ => cases hr

/-- While BUSY = 1 a write changes DROP only (R64, R229). -/
theorem writeEffect_busy (off : Nat) (v : Word) {s : State} (hb : s.busy = true) :
    writeEffect off v s = { s with drop := (writeEffect off v s).drop } := by
  obtain ⟨hw, -⟩ | ⟨hw, -⟩ | ⟨-, hidle, -⟩ | ⟨r, hw, hr⟩ := writeEffect_cases off v s
  · rw [hw]
    rfl
  · rw [hw]
  · simp [hb] at hidle
  · rw [hw, State.store_of_not_dropped (hr.resolve_left (by simp [hb]))]

/-- While BUSY = 1 a host access other than reset changes DROP and the model's own fields only, the count of accesses to
come excepted (R229). -/
theorem hostEvent_busy {e : HostEvent} {s t : State} (h : hostEvent e s = .next t) (hb : s.busy = true)
    (he : e ≠ .reset) : t = { s with drop := t.drop, inbox := t.inbox, rsp := t.rsp, draws := t.draws } := by
  obtain ⟨off, -, rfl | ⟨w, rfl⟩⟩ | ⟨off, v, -, rfl⟩ | ⟨-, -, rfl⟩ | ⟨-, -, rfl⟩ | ⟨rfl, -⟩ := hostEvent_next h
  case inr.inl => rw [writeEffect_busy off v hb]; rfl
  case inr.inr.inr.inr => exact absurd rfl he
  all_goals rfl

/-- Settles O9: the engine's step ends with BUSY = 0, and the host's is an access while BUSY = 1. -/
theorem operandsAreFrozenWhileBusy : Obligations.OperandsAreFrozenWhileBusy := by
  intro s t hb h htb
  obtain ⟨-, he⟩ | ⟨e, rest, -, -, he⟩ | ⟨hidle, -⟩ := step_next h
  · simp [engineStep_busy he] at htb
  · by_cases hr : e = .reset
    · subst hr
      cases he
      cases htb
    · rw [hostEvent_busy he hb hr]
      rfl
  · simp [hb] at hidle

/-! ## A pending command completes -/

/-- An access while BUSY = 1 leaves the host the accesses it had, and a poll makes itself anew (R98). -/
theorem hostEvent_busy_inbox {e : HostEvent} {s t : State} (h : hostEvent e s = .next t) (hb : s.busy = true)
    (he : e ≠ .reset) : ∀ x ∈ t.inbox, x = e ∨ x ∈ s.inbox := by
  obtain ⟨off, -, rfl | ⟨w, rfl⟩⟩ | ⟨off, v, -, rfl⟩ | ⟨rfl, -, rfl⟩ | ⟨-, -, rfl⟩ | ⟨rfl, -⟩ := hostEvent_next h
  case inr.inl =>
    rw [writeEffect_busy off v hb]
    exact fun x hx => .inr hx
  case inr.inr.inl => exact fun x hx => List.mem_cons.mp hx
  case inr.inr.inr.inr => exact absurd rfl he
  all_goals exact fun x hx => .inr hx

theorem run_succ {s t : State} (h : step s = .next t) (n : Nat) :
    Host.Core.run core (n + 1) s = Host.Core.run core n t := by
  simp only [Host.Core.run, core, h]

/-- On the engine's turn the next step completes the command (R203). -/
theorem completes_now {s : State} (hs : s.ConfigSound) (hturn : s.turn = .engine) :
    ∃ t, Host.Core.run core 1 s = .next t ∧ t.busy = false := by
  obtain ⟨t, ht⟩ := engineStep_answers hs
  exact ⟨t, run_succ ((step_engine hturn).trans ht) 0, engineStep_busy ht⟩

/-- The accesses to come before the completion are made one after the other (R204, log entry 8). -/
theorem completes_within {s : State} {n : Nat} (hn : s.latency = n) (h : s.Inv) (hb : s.busy = true)
    (hin : ∀ e ∈ s.inbox, e.meaningful = true ∧ e ≠ .reset) :
    ∃ k t, k ≤ n + 1 ∧ Host.Core.run core k s = .next t ∧ t.busy = false := by
  induction n generalizing s with
  | zero => exact ⟨1, (completes_now h.configSound (State.turn_engine.mpr ⟨hb, .inr hn⟩)).imp fun _ => .intro le_rfl⟩
  | succ n ih =>
    cases hturn : s.turn with
    | engine => exact ⟨1, (completes_now h.configSound hturn).imp fun _ => .intro (by omega)⟩
    | host e rest =>
      obtain ⟨hlist, -⟩ := State.turn_host.mp hturn
      obtain ⟨hmean, hreset⟩ := hin e (by simp [hlist])
      obtain ⟨t, ht⟩ := hostEvent_answers (s := s.take rest) h.configSound hmean
      have hframe := hostEvent_busy ht hb hreset
      have hlat : t.latency = n := by rw [hframe, State.take_latency, hn, Nat.add_sub_cancel]
      have hbusy : t.busy = true := by rw [hframe]; exact hb
      have hinbox : ∀ x ∈ t.inbox, x.meaningful = true ∧ x ≠ .reset := fun x hx =>
        hin x (hlist ▸ List.mem_cons.mpr (hostEvent_busy_inbox ht hb hreset x hx))
      obtain ⟨k, u, hk, hrun, hdone⟩ := ih hlat (State.Inv.hostEvent (h.of_filterKept (.take s rest)) ht) hbusy hinbox
      exact ⟨k + 1, u, by omega, (run_succ ((step_host hturn).trans ht) k).trans hrun, hdone⟩
    | idle => simp [(State.turn_idle.mp hturn).left] at hb

/-- Settles O8: by induction on the number of accesses to come. -/
theorem pendingCommandCompletes : Obligations.PendingCommandCompletes := fun _ => completes_within rfl

/-! ## The active key -/

/-- Settles O32: the key is part of the active configuration, and CONFIG zeroes the counters it configures. -/
theorem activeKeyChangesOnlyAtConfig : Obligations.ActiveKeyChangesOnlyAtConfig := by
  intro s t h hchange
  obtain ⟨hb, hd, rfl⟩ | ⟨rest, hin, rfl⟩ | hk := step_config_or_reset_or_kept h
  · exact .inl ⟨hb, hd, rfl, rfl, rfl, rfl, fun _ => State.read_configure⟩
  · exact .inr ⟨rest, hin, rfl, rfl⟩
  · obtain ⟨-, -, hka0, hka1⟩ := State.configKept_iff.mp hk
    simp [hka0, hka1] at hchange

end Sys2Proof.Machine
end

section
/-! PROOFS of the statements about STATUS, the access classes and the platform's addresses (spec/10_state.md R23, R26,
spec/20_memory.md R62, R70). -/

namespace Sys2Proof.Machine

/-! ## The fields of STATUS -/

/-- Every bit of STATUS (R26). -/
theorem statusWord_getLsbD (s : State) (i : Nat) :
    s.statusWord.getLsbD i =
      if i = 0 then s.busy else if i = 1 then s.result else if i = 2 then s.cfgValid else if i = 3 then s.hashActive
      else if i = 4 then s.drop else decide (8 ≤ i) && s.err.code.getLsbD (i - 8) := by
  simp only [State.statusWord, flagBit, BitVec.getLsbD_append, BitVec.getLsbD_ofBool, BitVec.getLsbD_zero]
  rcases i with _ | _ | _ | _ | _ | _ | _ | _ | i
  case succ.succ.succ.succ.succ.succ.succ.succ =>
    by_cases hi : i < 4
    · simp [hi]
    · simp [hi, BitVec.getLsbD_of_ge _ _ (Nat.not_lt.mp hi)]
  all_goals simp

/-- Above the flags STATUS holds the code at bit 8, and 0 elsewhere. -/
theorem statusWord_getLsbD_above (s : State) (i : Nat) :
    s.statusWord.getLsbD (5 + i) = (decide (3 ≤ i) && s.err.code.getLsbD (i - 3)) := by
  rw [statusWord_getLsbD, if_neg (by omega), if_neg (by omega), if_neg (by omega), if_neg (by omega), if_neg (by omega)]
  rw [show 5 + i - 8 = i - 3 by omega]
  simp only [show 8 ≤ 5 + i ↔ 3 ≤ i by omega]

theorem statusWord_extractLsb_reserved (s : State) : s.statusWord.extractLsb 7 5 = 0#3 := by
  refine BitVec.eq_of_getLsbD_eq fun i hi => ?_
  rw [BitVec.getLsbD_extractLsb, statusWord_getLsbD_above]
  simp [Nat.not_le.mpr hi]

theorem statusWord_extractLsb_err (s : State) : s.statusWord.extractLsb 11 8 = s.err.code := by
  refine BitVec.eq_of_getLsbD_eq fun i hi => ?_
  rw [BitVec.getLsbD_extractLsb, show 8 + i = 5 + (3 + i) by omega, statusWord_getLsbD_above]
  simp [hi]

theorem statusWord_extractLsb_high (s : State) : s.statusWord.extractLsb 63 12 = 0#52 := by
  refine BitVec.eq_of_getLsbD_eq fun i hi => ?_
  rw [BitVec.getLsbD_extractLsb, show 12 + i = 5 + (7 + i) by omega, statusWord_getLsbD_above,
    BitVec.getLsbD_of_ge _ (7 + i - 3) (by omega)]
  simp

/-- Clearing DROP clears bit 4 of STATUS and no other. -/
theorem statusWord_clear_drop (s : State) : { s with drop := false }.statusWord = s.statusWord &&& ~~~0x10#64 := by
  refine BitVec.eq_of_getLsbD_eq fun i hi => ?_
  rw [BitVec.getLsbD_and, BitVec.getLsbD_not, show (0x10#64 : Word) = BitVec.twoPow 64 4 from rfl,
    BitVec.getLsbD_twoPow, statusWord_getLsbD, statusWord_getLsbD]
  by_cases h4 : i = 4
  · simp [h4]
  · simp [h4, hi, Ne.symm h4]

theorem statusWord_writeStatus (v : Word) (s : State) :
    (s.writeStatus v).statusWord = if v.getLsbD 4 then s.statusWord &&& ~~~0x10#64 else s.statusWord := by
  rw [State.writeStatus_eq]
  split_ifs
  · exact statusWord_clear_drop s
  · rfl

/-- Settles O13: each clause reads off some bits of STATUS, and a write to it can only clear DROP. -/
theorem statusFieldsStandWhereTheyShould : Obligations.StatusFieldsStandWhereTheyShould := by
  refine ⟨fun s => ⟨?_, ?_, ?_, ?_, ?_, statusWord_extractLsb_reserved s, statusWord_extractLsb_err s,
    statusWord_extractLsb_high s⟩, statusWord_reset, fun s t v h => ?_⟩
  case refine_6 =>
    rw [show 0x10 = Reg.status.offset from rfl, hostEvent_write_reg, writeEffect_status] at h
    cases h
    exact statusWord_writeStatus v s
  all_goals rw [statusWord_getLsbD]; rfl

/-! ## Access classes -/

/-- A read depends on nothing that a write's acknowledgement changes. -/
theorem hostEvent_read_acknowledge (off : Nat) (s : State) :
    hostEvent (.read 64 off) s.acknowledge = hostEvent (.read 64 off) s := by
  simp only [hostEvent, checkedAccess]
  cases accessRefusal 64 off with
  | some r => rfl
  | none =>
    simp only [regRead]
    cases Reg.atOffset off <;> rfl

/-- A write to a plain register while BUSY = 0 stores the value (R23, R64). -/
theorem hostEvent_write_plain {r : Reg} {s : State} (hb : s.busy = false) (hr : r ≠ .status ∧ r ≠ .cmd) (v : Word) :
    hostEvent (.write 64 r.offset v) s = .next (s.store r v).acknowledge := by
  rw [hostEvent_write_reg, writeEffect_accepted v hr.left (by simp [hb]), if_neg hr.right]

/-- What the read after a write of a plain register returns. -/
theorem read_after_write {r : Reg} {s t u : State} {v : Word} (hb : s.busy = false)
    (hr : r ≠ .status ∧ r ≠ .cmd ∧ r ≠ .cntData) (hw : hostEvent (.write 64 r.offset v) s = .next t)
    (hread : hostEvent (.read 64 r.offset) t = .next u) : u.rsp = some ((s.store r v).regValue r) := by
  obtain ⟨hstatus, hcmd, hcnt⟩ := hr
  rw [hostEvent_write_plain hb ⟨hstatus, hcmd⟩] at hw
  cases hw
  rw [hostEvent_read_acknowledge, hostEvent_read_reg hcnt (.inl (by simp [hb]))] at hread
  cases hread
  rfl

/-- A write to a read-only register changes nothing (R23). -/
theorem write_read_only {r : Reg} {s t u : State} {v : Word} (hb : s.busy = false) (hr : r ≠ .status)
    (hro : r.droppedWhenBusy = false) (hw : hostEvent (.write 64 r.offset v) s = .next t)
    (hread : hostEvent (.read 64 r.offset) t = .next u) :
    hostEvent (.read 64 r.offset) s = .next u ∧ t = { s with rsp := none } := by
  have hcmd : r ≠ .cmd := by rintro rfl; cases hro
  rw [hostEvent_write_plain hb ⟨hr, hcmd⟩, State.store_of_not_dropped hro] at hw
  cases hw
  rw [hostEvent_read_acknowledge] at hread
  exact ⟨hread, rfl⟩

/-- Settles O14: the stored value of each register is the one written, 0 for KEY0 and KEY1, and a read-only register has
no store. -/
theorem writtenRegisterReadsBack : Obligations.WrittenRegisterReadsBack := by
  intro s t u off v hb hw hread
  simp only [List.mem_cons, List.not_mem_nil, or_false]
  refine ⟨?_, ?_, ?_⟩
  · rintro (rfl | rfl | rfl | rfl | rfl | rfl)
    · exact read_after_write (r := .data) hb (by decide) hw hread
    · exact read_after_write (r := .digest) hb (by decide) hw hread
    · exact read_after_write (r := .paramK) hb (by decide) hw hread
    · exact read_after_write (r := .paramO) hb (by decide) hw hread
    · exact read_after_write (r := .paramMaxc) hb (by decide) hw hread
    · exact read_after_write (r := .cntIndex) hb (by decide) hw hread
  · rintro (rfl | rfl)
    · exact read_after_write (r := .key0) hb (by decide) hw hread
    · exact read_after_write (r := .key1) hb (by decide) hw hread
  · rintro (rfl | rfl | rfl | rfl | rfl | rfl | rfl)
    · exact write_read_only (r := .id) hb (by decide) rfl hw hread
    · exact write_read_only (r := .cfgK) hb (by decide) rfl hw hread
    · exact write_read_only (r := .cfgO) hb (by decide) rfl hw hread
    · exact write_read_only (r := .cfgMaxc) hb (by decide) rfl hw hread
    · exact write_read_only (r := .itemCount) hb (by decide) rfl hw hread
    · exact write_read_only (r := .hlen) hb (by decide) rfl hw hread
    · exact write_read_only (r := .cntData) hb (by decide) rfl hw hread

/-! ## Platform addresses -/

/-- BASE is a multiple of 256, so the low eight bits of an address in the block are its offset (D2). -/
theorem blockOffset_inside {addr : Nat} (h : Config.base ≤ addr ∧ addr < Config.base + 0x100) :
    blockOffset addr = some (addr % 0x100) := by
  have hbase := Config.base_aligned
  exact blockOffset_eq_some.mpr (by omega)

theorem blockOffset_outside {addr : Nat} (h : addr < Config.base ∨ Config.base + 0x100 ≤ addr) :
    blockOffset addr = none := if_neg (by omega)

theorem Reg.address_injective : Function.Injective Reg.address := fun _ _ h =>
  Reg.offset_injective (Nat.add_left_cancel h)

/-- Settles O47: an access reaches the block by the offset its address names. -/
theorem platformAddressesReachTheBlockAtBase : Obligations.PlatformAddressesReachTheBlockAtBase := by
  refine ⟨Config.base_aligned, fun width addr v => ⟨fun hle hlt => ?_, fun hout => ?_⟩, fun r v => ?_,
    fun _ _ h => Reg.address_injective h⟩
  · simp [busRead, busWrite, blockOffset_inside ⟨hle, hlt⟩]
  · simp [busRead, busWrite, blockOffset_outside hout]
  · exact ⟨rfl, by simp [busRead], by simp [busWrite], HostEvent.meaningful_read.mpr ⟨rfl, r.offset_meaningful⟩⟩

end Sys2Proof.Machine
end
